-- ==== Sys2Proof/Word.lean ====
section
/-! DEFINITION. The values of the link engine (00_scope.md R17, R18): bytes, byte lists, bits, and the three wire
constants that are not parameters (R6). -/

namespace Sys2Proof

/-- R17: an 8-bit unsigned value. -/
abbrev Byte := BitVec 8

/-- R17: a finite list of bytes, in wire order (20_memory.md R73). -/
abbrev Bytes := List Byte

/-- R17: a bit, `false` for 0 and `true` for 1. `!s` is R18's complement. -/
abbrev Bit := Bool

/-- R6: the frame delimiter. -/
abbrev FLAG : Byte := 0x7E#8

/-- R6: the escape byte of byte stuffing. -/
abbrev ESC : Byte := 0x7D#8

/-- R6: what a stuffed byte is XORed with. -/
abbrev STUFF_MASK : Byte := 0x20#8

end Sys2Proof
end

