-- ==== Sys2Proof/Config.lean ====
section
/-! DEFINITION. The parameters of the link engine (00_scope.md section 3). A model keeps every parameter and takes
the defaults as one set of values only (93_implementation_defined.md G1 to G3), so the parameters are a structure
and every statement quantifies over it; `Config.default` is the reset value of the field State holds it in.
DESIGN CHOICE (log 2). -/

namespace Sys2Proof

/-- R7, R8, R10, R12: the parameters of one link engine. -/
structure Config where
  /-- `A_I`: the address byte of every frame the Initiator sends. -/
  aI : Byte
  /-- `A_R`: the address byte of every frame the Responder sends. -/
  aR : Byte
  cSet : Byte
  cUa : Byte
  cDisc : Byte
  cI0 : Byte
  cI1 : Byte
  cRr0 : Byte
  cRr1 : Byte
  cRej0 : Byte
  cRej1 : Byte
  /-- `MAX_PAYLOAD`: the largest payload, in bytes. -/
  maxPayload : Nat
  /-- `W_RETX`: the width of `CFG_N` and of `ATTEMPTS`. -/
  wRetx : Nat
  /-- `W_TIMER`: the width of `CFG_T` and of `TMR_REM`. -/
  wTimer : Nat
  deriving DecidableEq, Repr

/-- The defaults of R7, R8, R10 and R12. Only `A_I = 0x03` and `C_I0 = 0x00` come from the document. -/
def Config.default : Config where
  aI := 0x03#8
  aR := 0x01#8
  cSet := 0x03#8
  cUa := 0x07#8
  cDisc := 0x0B#8
  cI0 := 0x00#8
  cI1 := 0x80#8
  cRr0 := 0xAA#8
  cRr1 := 0xAB#8
  cRej0 := 0x54#8
  cRej1 := 0x55#8
  maxPayload := 1000
  wRetx := 8
  wTimer := 32

/-- R13: `TICK_PERIOD`, the real-time length of one timer tick, left OPEN by the spec. It has no value here, and no
definition of the model reads it (log 20). -/
opaque Config.tickPeriod : Nat

end Sys2Proof
end

