-- ==== Sys2Proof/Syntax.lean ====
section
/-! DEFINITION. The instructions of the link engine (00_scope.md R3: four host commands and nine wire frame types,
one row of spec/opcode_table.json each), the bytes and operands they are written in, and what the frame parser
works with (40_frame_codec.md R141, 10_state.md R43). -/

namespace Sys2Proof

/-- 10_state.md R32: `INITIATOR = 0`, `RESPONDER = 1`. -/
inductive Role where
  | initiator
  | responder
  deriving DecidableEq, Repr

/-- 30_encoding.md R99: the nine frame types the control byte selects. -/
inductive FrameType where
  | set
  | ua
  | disc
  | i0
  | i1
  | rr0
  | rr1
  | rej0
  | rej1
  deriving DecidableEq, Repr

/-- One constructor per row of spec/opcode_table.json. An I-frame carries its destuffed payload and the BCC2 byte
that stood behind it, so a frame whose check fails is an instruction too (42_arq.md R224). -/
inductive Instr where
  /-- SET: connection-open. -/
  | set
  /-- UA: acknowledge of SET or of DISC. -/
  | ua
  /-- DISC: disconnect. -/
  | disc
  /-- I(0): Information frame with sequence bit 0. -/
  | i0 (data : Bytes) (bcc : Byte)
  /-- I(1): Information frame with sequence bit 1. -/
  | i1 (data : Bytes) (bcc : Byte)
  /-- RR(0): ReceiveReady. -/
  | rr0
  /-- RR(1). -/
  | rr1
  /-- REJ(0): Reject. -/
  | rej0
  /-- REJ(1). -/
  | rej1
  /-- Host command OPEN: role, channel_id, bit_rate, max_retransmissions, timeout. -/
  | openCmd (role : Role) (channel rate : Nat) (maxRetx timeout : Nat)
  /-- Host command SEND. -/
  | sendCmd (payload : Bytes)
  /-- Host command RECEIVE. -/
  | receiveCmd
  /-- Host command CLOSE. -/
  | closeCmd
  deriving DecidableEq, Repr

/-- The frame type of a frame, none of a host command. -/
def Instr.frameType? : Instr → Option FrameType
  | .set => some .set
  | .ua => some .ua
  | .disc => some .disc
  | .i0 _ _ => some .i0
  | .i1 _ _ => some .i1
  | .rr0 => some .rr0
  | .rr1 => some .rr1
  | .rej0 => some .rej0
  | .rej1 => some .rej1
  | .openCmd .. => none
  | .sendCmd _ => none
  | .receiveCmd => none
  | .closeCmd => none

/-- 30_encoding.md R110: the operands beside a command byte. A command ignores the operands it does not have
(DESIGN CHOICE, log 9). -/
structure Operands where
  channelId : Nat := 0
  bitRate : Nat := 0
  maxRetransmissions : Nat := 0
  timeout : Nat := 0
  payload : Bytes := []
  deriving DecidableEq, Repr

/-- An instruction as it comes to the block: the bytes of a wire frame, or a command byte with its operands. -/
inductive Code where
  | frame (bytes : Bytes)
  | command (byte : Byte) (operands : Operands)
  deriving DecidableEq, Repr

/-- Why `decode` gives no instruction. -/
inductive DecodeError where
  /-- 30_encoding.md R110: a reserved bit `[7:3]` of the command byte is set. -/
  | reservedBits
  /-- 30_encoding.md R110: `role = 1` on an operation other than OPEN. -/
  | roleOnNonOpen
  /-- The bytes end before a frame closes (30_encoding.md R98). -/
  | incompleteFrame
  /-- The parser drops the frame (40_frame_codec.md R141, `MALFORMED`). -/
  | malformedFrame
  /-- Bytes follow the frame's closing FLAG. -/
  | trailingBytes
  deriving DecidableEq, Repr

/-- 10_state.md R43: the parser state `PSTATE`. -/
inductive PState where
  | idle
  | gotFlag
  | gotAddr
  | gotCtrl
  | gotBcc1
  | data
  | esc
  deriving DecidableEq, Repr

/-- The code of each parser state (10_state.md R43). -/
def PState.code : PState → Nat
  | .idle => 0
  | .gotFlag => 1
  | .gotAddr => 2
  | .gotCtrl => 3
  | .gotBcc1 => 4
  | .data => 5
  | .esc => 6

/-- 10_state.md R43: the parser registers `PSTATE`, `P_CTRL` and `ACC`. -/
structure Parser where
  pState : PState
  pCtrl : Byte
  acc : Bytes
  deriving DecidableEq, Repr

/-- 40_frame_codec.md R141: what one parser step returns. `badBcc2` carries the damaged payload and its check byte
beside R141's sequence bit; no meaning reads them for more than the check that failed (log 7). -/
inductive ParserEvent where
  | none
  | ctrl (c : Byte)
  | info (s : Bit) (data : Bytes)
  | badBcc2 (s : Bit) (data : Bytes) (bcc : Byte)
  | malformed
  deriving DecidableEq, Repr

end Sys2Proof
end

