-- ==== Sys2Proof/WellFormed.lean ====
section
/-! DEFINITION. Which instructions are well formed: every operand within the range its rule gives it
(30_encoding.md R92 and R110, 20_memory.md R76). Every check is of one named operand. -/

namespace Sys2Proof

/-- 30_encoding.md R92 and R110: a payload is 1 to `MAX_PAYLOAD` bytes long. -/
def payloadInRange (c : Config) (p : Bytes) : Bool :=
  decide (1 ≤ p.length) && decide (p.length ≤ c.maxPayload)

/-- 30_encoding.md R110: `max_retransmissions` is a value of `W_RETX` bits. -/
def retxInRange (c : Config) (n : Nat) : Bool := decide (n < 2 ^ c.wRetx)

/-- 30_encoding.md R110: `timeout` is a value of `W_TIMER` bits. -/
def timeoutInRange (c : Config) (t : Nat) : Bool := decide (t < 2 ^ c.wTimer)

/-- The operands of an instruction are within their ranges. -/
def Instr.wf (c : Config) : Instr → Bool
  | .set => true
  | .ua => true
  | .disc => true
  | .i0 d _ => payloadInRange c d
  | .i1 d _ => payloadInRange c d
  | .rr0 => true
  | .rr1 => true
  | .rej0 => true
  | .rej1 => true
  | .openCmd _ _ _ n t => retxInRange c n && timeoutInRange c t
  | .sendCmd p => payloadInRange c p
  | .receiveCmd => true
  | .closeCmd => true

end Sys2Proof
end

