-- ==== Sys2Proof/Decode.lean ====
section
/-! DEFINITION. The codec (40_frame_codec.md): the pure transmit functions, the incremental parser as a function of
its registers, the decoder of frames and of command bytes, and the encoder. -/

namespace Sys2Proof

/-! ### Parameters as tables -/

/-- 00_scope.md R21: the address byte of a role. -/
def addr (c : Config) : Role → Byte
  | .initiator => c.aI
  | .responder => c.aR

/-- 00_scope.md R21: the other role. -/
def peer : Role → Role
  | .initiator => .responder
  | .responder => .initiator

/-- 30_encoding.md R94: the control byte of each frame type, by table lookup only (R95). -/
def control (c : Config) : FrameType → Byte
  | .set => c.cSet
  | .ua => c.cUa
  | .disc => c.cDisc
  | .i0 => c.cI0
  | .i1 => c.cI1
  | .rr0 => c.cRr0
  | .rr1 => c.cRr1
  | .rej0 => c.cRej0
  | .rej1 => c.cRej1

/-- The nine frame types in the order of 30_encoding.md R99. -/
def frameTypes : List FrameType := [.set, .ua, .disc, .i0, .i1, .rr0, .rr1, .rej0, .rej1]

/-- 30_encoding.md R99: the frame type a control byte selects; none for a reserved byte (R100). -/
def frameTypeOf (c : Config) (b : Byte) : Option FrameType :=
  frameTypes.find? (fun f => control c f == b)

/-- 00_scope.md R21: the I-frame type of a sequence bit. -/
def infoType : Bit → FrameType
  | false => .i0
  | true => .i1

/-- 00_scope.md R21: the RR type of a sequence bit. -/
def rrType : Bit → FrameType
  | false => .rr0
  | true => .rr1

/-- 00_scope.md R21: the REJ type of a sequence bit. -/
def rejType : Bit → FrameType
  | false => .rej0
  | true => .rej1

/-- 00_scope.md R21: `c_I(s)`. -/
def cI (c : Config) (s : Bit) : Byte := control c (infoType s)

/-- 00_scope.md R21: `c_RR(s)`. -/
def cRR (c : Config) (s : Bit) : Byte := control c (rrType s)

/-- 00_scope.md R21: `c_REJ(s)`. -/
def cREJ (c : Config) (s : Bit) : Byte := control c (rejType s)

/-! ### Transmit half -/

/-- 00_scope.md R18: `xor_fold`. -/
def xorFold : Bytes → Byte
  | [] => 0x00#8
  | x :: xs => x ^^^ xorFold xs

/-- 40_frame_codec.md R131: the payload check byte. -/
def bcc2 (p : Bytes) : Byte := xorFold p

/-- 40_frame_codec.md R132: the two values stuffing replaces. -/
def reserved (x : Byte) : Bool := x == FLAG || x == ESC

/-- 40_frame_codec.md R132: byte stuffing. -/
def stuff : Bytes → Bytes
  | [] => []
  | x :: xs => (if reserved x then [ESC, x ^^^ STUFF_MASK] else [x]) ++ stuff xs

/-- 40_frame_codec.md R136: the inverse of stuffing; none for a lone trailing ESC (93_implementation_defined.md U13).
It states laws only; the parser destuffs byte by byte. -/
def destuff : Bytes → Option Bytes
  | [] => some []
  | [y] => if y == ESC then none else some [y]
  | y :: z :: ys =>
    if y == ESC then (destuff ys).map (fun r => (z ^^^ STUFF_MASK) :: r) else (destuff (z :: ys)).map (fun r => y :: r)

/-- 40_frame_codec.md R135: the control frame, never stuffed. -/
def encodeC (a k : Byte) : Bytes := [FLAG, a, k, a ^^^ k, FLAG]

/-- 30_encoding.md R92: an Information frame of address `a` and control `k` whose data field is the payload `d` and
the check byte `x`, stuffed as one sequence. -/
def infoFrame (a k : Byte) (d : Bytes) (x : Byte) : Bytes :=
  [FLAG, a, k, a ^^^ k] ++ stuff (d ++ [x]) ++ [FLAG]

/-- 40_frame_codec.md R134: the Information frame the block sends. -/
def encodeI (c : Config) (a : Byte) (s : Bit) (p : Bytes) : Bytes := infoFrame a (cI c s) p (bcc2 p)

/-! ### Receive half: the incremental parser -/

/-- 40_frame_codec.md R149: `parser_reset()`. `P_CTRL` is not cleared. -/
def Parser.reset (p : Parser) : Parser := { p with pState := .idle, acc := [] }

/-- 40_frame_codec.md R146: `append(d)`. -/
def Parser.append (c : Config) (p : Parser) (d : Byte) : Parser × ParserEvent :=
  if p.acc.length == c.maxPayload + 1 then ({ p with acc := [], pState := .idle }, .malformed)
  else ({ p with acc := p.acc ++ [d] }, .none)

/-- 40_frame_codec.md R148: the sequence bit of the frame being closed. -/
def Parser.seqBit (c : Config) (p : Parser) : Bit := p.pCtrl == c.cI1

/-- 40_frame_codec.md R148: `close_frame()`. -/
def Parser.closeFrame (c : Config) (p : Parser) : Parser × ParserEvent :=
  let p' := { p with acc := [], pState := .idle }
  match p.acc.getLast? with
  | none => (p', .malformed)
  | some bcc =>
    let data := p.acc.dropLast
    if data.isEmpty then (p', .malformed)
    else if xorFold data == bcc then (p', .info (p.seqBit c) data)
    else (p', .badBcc2 (p.seqBit c) data bcc)

/-- 40_frame_codec.md R140 to R148: one parser step on byte `b`; `ea` is the expected address, the peer's. -/
def Parser.parse (c : Config) (ea : Byte) (p : Parser) (b : Byte) : Parser × ParserEvent :=
  match p.pState with
  | .idle => if b == FLAG then ({ p with pState := .gotFlag }, .none) else (p, .none)
  | .gotFlag =>
    if b == FLAG then (p, .none)
    else if b == ea then ({ p with pState := .gotAddr }, .none)
    else ({ p with pState := .idle }, .malformed)
  | .gotAddr =>
    if b == FLAG then ({ p with pState := .gotFlag }, .malformed)
    else if (frameTypeOf c b).isSome then ({ p with pCtrl := b, pState := .gotCtrl }, .none)
    else ({ p with pState := .idle }, .malformed)
  | .gotCtrl =>
    if b == FLAG then ({ p with pState := .gotFlag }, .malformed)
    else if b == ea ^^^ p.pCtrl then
      if p.pCtrl == c.cI0 || p.pCtrl == c.cI1 then ({ p with acc := [], pState := .data }, .none)
      else ({ p with pState := .gotBcc1 }, .none)
    else ({ p with pState := .idle }, .malformed)
  | .gotBcc1 =>
    if b == FLAG then ({ p with pState := .idle }, .ctrl p.pCtrl) else ({ p with pState := .idle }, .malformed)
  | .data =>
    if b == FLAG then p.closeFrame c
    else if b == ESC then ({ p with pState := .esc }, .none)
    else p.append c b
  | .esc =>
    if b == FLAG then ({ p with acc := [], pState := .idle }, .malformed)
    else Parser.append c { p with pState := .data } (b ^^^ STUFF_MASK)

/-- Feeding bytes one per step: the parser after them, and the event of each byte in order. -/
def Parser.feed (c : Config) (ea : Byte) (p : Parser) : Bytes → Parser × List ParserEvent
  | [] => (p, [])
  | b :: bs =>
    let (p', e) := p.parse c ea b
    let (p'', es) := p'.feed c ea bs
    (p'', e :: es)

/-! ### Decoder -/

/-- The I-frame with sequence bit `s`. -/
def infoInstr (s : Bit) (d : Bytes) (x : Byte) : Instr := if s then .i1 d x else .i0 d x

/-- The control frame of a frame type (30_encoding.md R99); none for the two Information types. -/
def controlInstr : FrameType → Option Instr
  | .set => some .set
  | .ua => some .ua
  | .disc => some .disc
  | .i0 => none
  | .i1 => none
  | .rr0 => some .rr0
  | .rr1 => some .rr1
  | .rej0 => some .rej0
  | .rej1 => some .rej1

/-- The instruction a parser event stands for: none where no frame was decoded. -/
def ParserEvent.instr (c : Config) : ParserEvent → Option Instr
  | .none => Option.none
  | .ctrl k => (frameTypeOf c k).bind controlInstr
  | .info s d => some (infoInstr s d (xorFold d))
  | .badBcc2 s d x => some (infoInstr s d x)
  | .malformed => Option.none

/-- The bytes of one frame, scanned by the parser until its closing FLAG, which is the last byte. As on the wire, bytes
before the opening FLAG are skipped (log 26). -/
def scanFrame (c : Config) (ea : Byte) (p : Parser) : Bytes → Except DecodeError Instr
  | [] => .error .incompleteFrame
  | b :: bs =>
    match p.parse c ea b with
    | (p', .none) => scanFrame c ea p' bs
    | (_, .malformed) => .error .malformedFrame
    | (_, e) =>
      if bs.isEmpty then
        match e.instr c with
        | some i => .ok i
        | none => .error .malformedFrame
      else .error .trailingBytes

/-- A parser that hunts for a frame. -/
def Parser.hunting : Parser := { pState := .idle, pCtrl := 0x00#8, acc := [] }

/-- The instruction in the bytes of one frame whose address byte is `ea`. -/
def decodeFrame (c : Config) (ea : Byte) (bs : Bytes) : Except DecodeError Instr :=
  scanFrame c ea .hunting bs

/-- 30_encoding.md R110: the `op` field, bits `[1:0]`. -/
def opField (b : Byte) : BitVec 2 := b.extractLsb' 0 2

/-- 30_encoding.md R110: the `role` field, bit `[2]`. -/
def roleField (b : Byte) : Bool := b.getLsbD 2

/-- 30_encoding.md R110: the reserved field, bits `[7:3]`. -/
def reservedField (b : Byte) : BitVec 5 := b.extractLsb' 3 5

/-- 30_encoding.md R110: the role an OPEN command byte names. -/
def roleOf (b : Byte) : Role := if roleField b then .responder else .initiator

/-- 30_encoding.md R110: the command a command byte and its operands spell. -/
def decodeCommand (b : Byte) (o : Operands) : Except DecodeError Instr :=
  if reservedField b ≠ 0 then .error .reservedBits
  else if opField b = 0 then .ok (.openCmd (roleOf b) o.channelId o.bitRate o.maxRetransmissions o.timeout)
  else if roleField b then .error .roleOnNonOpen
  else if opField b = 1 then .ok (.sendCmd o.payload)
  else if opField b = 2 then .ok .receiveCmd
  else .ok .closeCmd

/-- The instruction in `code`, total on any bytes. `sender` is the role whose address the frames carry. -/
def decode (c : Config) (sender : Role) : Code → Except DecodeError Instr
  | .frame bs => decodeFrame c (addr c sender) bs
  | .command b o => decodeCommand b o

/-! ### Encoder -/

/-- 30_encoding.md R110: the OPEN command byte of a role. -/
def openByte : Role → Byte
  | .initiator => 0x00#8
  | .responder => 0x04#8

/-- The bytes of a frame sent by `sender`, or a command byte with its operands (the ones a command does not have at
their zero). -/
def encode (c : Config) (sender : Role) : Instr → Code
  | .set => .frame (encodeC (addr c sender) c.cSet)
  | .ua => .frame (encodeC (addr c sender) c.cUa)
  | .disc => .frame (encodeC (addr c sender) c.cDisc)
  | .i0 d x => .frame (infoFrame (addr c sender) c.cI0 d x)
  | .i1 d x => .frame (infoFrame (addr c sender) c.cI1 d x)
  | .rr0 => .frame (encodeC (addr c sender) c.cRr0)
  | .rr1 => .frame (encodeC (addr c sender) c.cRr1)
  | .rej0 => .frame (encodeC (addr c sender) c.cRej0)
  | .rej1 => .frame (encodeC (addr c sender) c.cRej1)
  | .openCmd r ch rate n t =>
    .command (openByte r) { channelId := ch, bitRate := rate, maxRetransmissions := n, timeout := t }
  | .sendCmd p => .command 0x01#8 { payload := p }
  | .receiveCmd => .command 0x02#8 {}
  | .closeCmd => .command 0x03#8 {}

/-! ### The opcode table's words -/

/-- The operand words of zeros of a table row: SEND's payload is one zero byte, the shortest the spec allows. -/
def zeroOperands : Operands := { payload := [0x00#8] }

/-- The instruction of an 8-bit word of spec/opcode_table.json. The table has two spaces (control bytes and command
bytes) and its word does not say which one it is of, so the first row of the table that fits decides, as the table
lists them: a control frame with that control byte, then an I-frame with a data field of zeros, then a host command
with operands of zeros. DESIGN CHOICE (log 13). -/
def tableInstr (c : Config) (nbits w : Nat) : Option Instr :=
  if nbits = 8 ∧ w < 256 then
    let b := BitVec.ofNat 8 w
    match decodeFrame c c.aI [FLAG, c.aI, b, c.aI ^^^ b, FLAG] with
    | .ok i => some i
    | .error _ =>
      match decodeFrame c c.aI [FLAG, c.aI, b, c.aI ^^^ b, 0x00#8, 0x00#8, FLAG] with
      | .ok i => some i
      | .error _ =>
        match decodeCommand b zeroOperands with
        | .ok i => some i
        | .error _ => none
  else none

/-- The instruction the decoder reads from a word of spec/opcode_table.json, with the default parameters. -/
def decodeTableWord (nbits w : Nat) : Option Instr := tableInstr .default nbits w

end Sys2Proof
end

