-- ==== Sys2Proof/Machine/State.lean ====
section
/-! DEFINITION. The state of one link engine (10_state.md R45), as plain data, with the events it has still to take
and the actions it has emitted (00_scope.md R14). -/

namespace Sys2Proof.Machine

/-- 10_state.md R33: `CLOSED = 0`, `CONNECTED = 1`. -/
inductive Conn where
  | closed
  | connected
  deriving DecidableEq, Repr

/-- 10_state.md R37: the operation in progress and what it waits for. -/
inductive Phase where
  | idle
  | openIWaitUa
  | openRWaitSet
  | sendWaitAck
  | recvWaitI
  | closeIWaitDisc
  | closeRWaitDisc
  | closeRWaitUa
  deriving DecidableEq, Repr

/-- The code of each phase (10_state.md R37). -/
def Phase.code : Phase → Nat
  | .idle => 0
  | .openIWaitUa => 1
  | .openRWaitSet => 2
  | .sendWaitAck => 3
  | .recvWaitI => 4
  | .closeIWaitDisc => 5
  | .closeRWaitDisc => 6
  | .closeRWaitUa => 7

/-- The four phases with an armed timer (10_state.md R37; 41_connection.md R188). -/
inductive TimedPhase where
  | openI
  | send
  | closeI
  | closeR
  deriving DecidableEq, Repr

/-- The value of `PHASE` in a timed phase. -/
def TimedPhase.phase : TimedPhase → Phase
  | .openI => .openIWaitUa
  | .send => .sendWaitAck
  | .closeI => .closeIWaitDisc
  | .closeR => .closeRWaitUa

/-- The timed phase a value of `PHASE` is, if it is one. -/
def Phase.timed? : Phase → Option TimedPhase
  | .idle => none
  | .openIWaitUa => some .openI
  | .openRWaitSet => none
  | .sendWaitAck => some .send
  | .recvWaitI => none
  | .closeIWaitDisc => some .closeI
  | .closeRWaitDisc => none
  | .closeRWaitUa => some .closeR

/-- 60_exceptions.md R270: the error kinds. `malformedFrame` is never surfaced in a `RESP` (R275). -/
inductive Err where
  | channelUnavailable
  | noResponse
  | transferFailed
  | notConnected
  | malformedFrame
  deriving DecidableEq, Repr

/-- 30_encoding.md R111: the answer to a host command. -/
inductive Result where
  | ok (v : Nat)
  | err (e : Err)
  deriving DecidableEq, Repr

/-- 60_exceptions.md R270: the numeric code of a result. -/
def Result.code : Result → Nat
  | .ok _ => 0
  | .err .channelUnavailable => 1
  | .err .noResponse => 2
  | .err .transferFailed => 3
  | .err .notConnected => 4
  | .err .malformedFrame => 5

/-- 30_encoding.md R111: the value beside the code; the spec gives an error none (log 23). -/
def Result.value? : Result → Option Nat
  | .ok v => some v
  | .err _ => none

/-- 00_scope.md R14: the input events. -/
inductive Event where
  /-- A host command: a command byte and its operands (30_encoding.md R110). -/
  | cmd (byte : Byte) (operands : Operands)
  /-- `read_byte` returned a byte. -/
  | byte (b : Byte)
  /-- `read_byte` returned `would_block`. -/
  | noByte
  /-- One tick of the timer's time base. -/
  | tick
  deriving DecidableEq, Repr

/-- One input of the environment: an event, and what the Transport Port answers in that step to a `PORT_OPEN` and to a
`PORT_CLOSE` (60_exceptions.md R291; a step makes at most one of each). -/
structure Input where
  event : Event
  openOk : Bool
  closeOk : Bool
  deriving DecidableEq, Repr

/-- 00_scope.md R14: the output actions. -/
inductive Action where
  /-- One call of the port's `write`. -/
  | tx (bytes : Bytes)
  | portOpen (channel rate : Nat)
  | portClose
  /-- The answer to the pending host command. -/
  | resp (r : Result)
  deriving DecidableEq, Repr

/-- The state of one link engine. The first twenty fields are the registers of 10_state.md R45 in its order. -/
structure State where
  conn : Conn
  role : Role
  cfgCh : Nat
  cfgRate : Nat
  cfgN : Nat
  cfgT : Nat
  portOpen : Bool
  ns : Bit
  nr : Bit
  phase : Phase
  attempts : Nat
  discSeen : Bool
  txBuf : Bytes
  txLen : Nat
  rxBuf : Bytes
  pState : PState
  pCtrl : Byte
  acc : Bytes
  tmrArmed : Bool
  tmrRem : Nat
  /-- The parameters (00_scope.md R7, R8, R10, R12), written by no step (log 2). -/
  par : Config
  /-- The environment's events not yet taken, oldest first (log 3). -/
  input : List Input
  /-- `port_result` of a `PORT_OPEN` in the step in progress (60_exceptions.md R291; log 24). -/
  openOk : Bool
  /-- `port_result` of a `PORT_CLOSE` in the step in progress. -/
  closeOk : Bool
  /-- The output actions emitted so far, oldest first (20_memory.md R72; log 5). -/
  out : List Action
  deriving DecidableEq, Repr

/-- 70_reset_and_hazards.md R300: every register at the value of 10_state.md R45's reset column. `role`, `cfgCh`,
`cfgRate`, `cfgN`, `cfgT` and `pCtrl` have none there: DESIGN CHOICE (log 1). `openOk` and `closeOk` are the model's
own: DESIGN CHOICE (log 24). -/
def State.reset : State where
  conn := .closed
  role := .initiator
  cfgCh := 0
  cfgRate := 0
  cfgN := 0
  cfgT := 0
  portOpen := false
  ns := false
  nr := false
  phase := .idle
  attempts := 0
  discSeen := false
  txBuf := []
  txLen := 0
  rxBuf := []
  pState := .idle
  pCtrl := 0x00#8
  acc := []
  tmrArmed := false
  tmrRem := 0
  par := .default
  input := []
  openOk := false
  closeOk := false
  out := []

/-- Why the machine stops with a fault: never. The block has no trap and no fault (60_exceptions.md R280: "No
condition makes the block transfer control to a handler"), and every register holds a value at reset, so no read
faults (log 1, log 21). Safe. -/
inductive Fault where
  deriving DecidableEq, Repr

/-- Why a step has no meaning (60_exceptions.md R282). Every refusal is safe: nothing can be proved of a run past it. -/
inductive Refusal where
  /-- Raised by `exec`'s arm of an instruction that has no meaning yet. Safe. -/
  | notModelled (mnemonic : String)
  /-- R282 case 1: raised by every host command while `PHASE != IDLE`. Safe. -/
  | commandPending
  /-- R282 case 2: raised by OPEN while `CONN = CONNECTED`. Safe. -/
  | openWhileConnected
  /-- R282 case 3: raised by SEND of an empty payload or of one longer than `MAX_PAYLOAD`. Safe. -/
  | badSendLength
  /-- R282 case 4: raised by a command byte that spells no command. Safe. -/
  | malformedCommand
  /-- R282 case 5: raised by every step under parameters that fail 00_scope.md R9 (or R10's bound). Safe. -/
  | badParameters
  /-- R282 case 6: raised by a `BYTE` or `NOBYTE` event, and by a frame's meaning, while `PHASE = IDLE`. Safe. -/
  | portReadWhileIdle
  /-- Raised by OPEN with a `max_retransmissions` or `timeout` that does not fit its register (log 10). Safe. -/
  | operandOutOfRange
  deriving DecidableEq, Repr

end Sys2Proof.Machine
end

