-- ==== Sys2Proof/Machine/Params.lean ====
section
/-! DEFINITION. Parameter well-formedness (00_scope.md R9 and R10). -/

namespace Sys2Proof.Machine

/-- The nine control values of a configuration (00_scope.md R8). -/
def controls (c : Config) : List Byte := frameTypes.map (control c)

/-- The BCC1 values of a configuration: `A ^ C` for either address and any of the nine (00_scope.md R9 check 3). -/
def bcc1s (c : Config) : List Byte := (controls c).map (c.aI ^^^ ·) ++ (controls c).map (c.aR ^^^ ·)

/-- 00_scope.md R9 checks 1, 2 and 3, and R10's bound on `MAX_PAYLOAD` (log 15). -/
def paramsOk (c : Config) : Bool :=
  c.aI != c.aR
    && decide (controls c).Nodup
    && (c.aI :: c.aR :: controls c ++ bcc1s c).all (fun b => !reserved b)
    && decide (1 ≤ c.maxPayload)

end Sys2Proof.Machine
end

