-- ==== Sys2Proof/Machine/Operands.lean ====
section
/-! DEFINITION. The operand forms of the instructions: what each operand check is (30_encoding.md R110,
60_exceptions.md R282), and the addresses and control bytes a state selects. -/

namespace Sys2Proof.Machine

/-- 60_exceptions.md R282 case 3: a SEND payload is 1 to `MAX_PAYLOAD` bytes. -/
def sendLengthOk (s : State) (p : Bytes) : Bool := payloadInRange s.par p

/-- 30_encoding.md R110: OPEN's counts fit their registers (log 10). -/
def openOperandsOk (s : State) (n t : Nat) : Bool := retxInRange s.par n && timeoutInRange s.par t

/-- 40_frame_codec.md R146 and R148: an I-frame with no payload byte, or with more than `MAX_PAYLOAD`, is no frame. -/
def infoLengthOk (s : State) (d : Bytes) : Bool := payloadInRange s.par d

/-- 30_encoding.md R93: the address byte of every frame this engine sends. -/
def State.ownAddr (s : State) : Byte := addr s.par s.role

/-- 40_frame_codec.md R140: the expected address, the peer's. -/
def State.peerAddr (s : State) : Byte := addr s.par (peer s.role)

/-- The control frame of type `f` as this engine sends it. -/
def State.controlFrame (s : State) (f : FrameType) : Bytes := encodeC s.ownAddr (control s.par f)

/-- The I-frame carrying `p` with the current `NS` as this engine sends it (42_arq.md R210). -/
def State.infoFrame (s : State) (p : Bytes) : Bytes := encodeI s.par s.ownAddr s.ns p

/-- The parser registers. -/
def State.parser (s : State) : Parser := { pState := s.pState, pCtrl := s.pCtrl, acc := s.acc }

/-- Writes the parser registers. -/
def State.setParser (s : State) (p : Parser) : State := { s with pState := p.pState, pCtrl := p.pCtrl, acc := p.acc }

end Sys2Proof.Machine
end

