-- ==== Sys2Proof/Machine/Flags.lean ====
section
/-! DEFINITION. The flags of the block and the Timeout Controller. The block has no condition codes; its flags are
`CONN`, `PORT_OPEN`, `DISC_SEEN` and `TMR_ARMED` (10_state.md R45). `TMR_ARMED` is written by the three timer
primitives of 43_timeout.md only. -/

namespace Sys2Proof.Machine

/-- 43_timeout.md R252: `arm()` restarts the countdown. -/
def State.arm (s : State) : State := { s with tmrArmed := true, tmrRem := s.cfgT }

/-- 43_timeout.md R253: `disarm()`. `TMR_REM` keeps its value. -/
def State.disarm (s : State) : State := { s with tmrArmed := false }

/-- 43_timeout.md R254: whether a `TICK` seen now fires the timer. -/
def State.fires (s : State) : Bool := s.tmrArmed && decide (s.tmrRem ≤ 1)

/-- 43_timeout.md R254: what `tick()` writes. -/
def State.tick (s : State) : State :=
  if s.tmrArmed then
    if s.tmrRem ≤ 1 then { s with tmrArmed := false, tmrRem := 0 } else { s with tmrRem := s.tmrRem - 1 }
  else s

end Sys2Proof.Machine
end

