-- ==== Sys2Proof/Machine/Ops.lean ====
section
/-! DEFINITION. The shared operations of the link engine: the pseudocode primitives (00_scope.md R20), the attempt
machinery (41_connection.md R185 to R189) and the ends of an operation. The block takes no exception
(60_exceptions.md R280); what takes its place is `State.fail`, the one way an error leaves an operation.

Each operation is written in the order of its pseudocode, one update after another; a value that 00_scope.md R19
reads from before the step is named before the update. What the primitives called in a step read of registers the
same step has written is DEDUCED in log 6. -/

namespace Sys2Proof.Machine

/-- The outcomes of a step of the link engine. -/
abbrev Outcome := Host.Outcome State Fault Refusal

/-- 00_scope.md R20: emits one output action, behind those emitted before it (R19). -/
def State.emit (s : State) (a : Action) : State := { s with out := s.out ++ [a] }

/-- 00_scope.md R20: `respond(r)` answers the pending command and ends the operation. -/
def State.respond (s : State) (r : Result) : State := { s.emit (.resp r) with phase := .idle }

/-- 00_scope.md R20: `fail(e)`. -/
def State.fail (s : State) (e : Err) : State := s.respond (.err e)

/-- 40_frame_codec.md R149: `parser_reset()`. -/
def State.parserReset (s : State) : State := s.setParser s.parser.reset

/-- What the acceptance of every operation does to the shared units: the timer is disarmed (43_timeout.md R253, "Called
when an operation starts"; log 16) and the parser reset (40_frame_codec.md R149). -/
def State.startOperation (s : State) : State := s.disarm.parserReset

/-- `emit TX(encode_C(addr(ROLE), c))` for the control frame of type `f`. -/
def State.sendControl (s : State) (f : FrameType) : State := s.emit (.tx (s.controlFrame f))

/-! ### Ends of an operation -/

/-- 41_connection.md R174: `established_initiator()`. -/
def State.establishedInitiator (s : State) : State :=
  State.respond
    { s.disarm with conn := .connected, ns := false, nr := false, discSeen := false, attempts := 0 } (.ok 0)

/-- 41_connection.md R180: `established_responder()`. -/
def State.establishedResponder (s : State) : State :=
  State.respond { s with conn := .connected, ns := false, nr := false, discSeen := false, attempts := 0 } (.ok 0)

/-- 41_connection.md R175: OPEN as Initiator spends its budget; the port is released, its answer ignored. -/
def State.openExhausted (s : State) : State :=
  State.fail { s.disarm.emit .portClose with portOpen := false } .noResponse

/-- 41_connection.md R199: the result of a CLOSE whose handshake ended with `r` and whose port close answered `ok`. -/
def closeResult (r : Result) (ok : Bool) : Result :=
  if r = .ok 0 ∧ ok = false then .err .channelUnavailable else r

/-- 41_connection.md R199: `finish_close(r)`. -/
def State.finishClose (s : State) (r : Result) : State :=
  State.respond { s.disarm.emit .portClose with portOpen := false, conn := .closed, discSeen := false }
    (closeResult r s.closeOk)

/-- 41_connection.md R193 and R198: CLOSE spends its budget, in either role. -/
def State.closeExhausted (s : State) : State := s.disarm.finishClose (.err .noResponse)

/-- 42_arq.md R214: `send_acked()`. -/
def State.sendAcked (s : State) : State := State.respond { s.disarm with ns := !s.ns } (.ok s.txLen)

/-- 42_arq.md R217: `send_exhausted()`. -/
def State.sendExhausted (s : State) : State := s.disarm.fail .transferFailed

/-! ### Attempts -/

/-- 41_connection.md R188: `exhausted(P)`. -/
def State.exhausted (s : State) : TimedPhase → State
  | .openI => s.openExhausted
  | .send => s.sendExhausted
  | .closeI => s.closeExhausted
  | .closeR => s.closeExhausted

/-- 41_connection.md R186: `start_attempt()`. -/
def State.startAttempt (s : State) : State := State.arm (State.emit { s with attempts := s.attempts + 1 } (.tx s.txBuf))

/-- 41_connection.md R185: `begin_attempts(P)`; R189 for `CFG_N = 0`. -/
def State.beginAttempts (s : State) (p : TimedPhase) : State :=
  if s.cfgN = 0 then State.exhausted { s with phase := p.phase } p
  else State.startAttempt { s with phase := p.phase }

/-- 41_connection.md R187: `on_timeout(P)`. -/
def State.onTimeout (s : State) (p : TimedPhase) : State :=
  if s.attempts < s.cfgN then s.startAttempt else s.exhausted p

/-- 42_arq.md R215: `send_rejected()`. -/
def State.sendRejected (s : State) : State :=
  if s.attempts < s.cfgN then s.disarm.startAttempt else s.disarm.sendExhausted

end Sys2Proof.Machine
end

