-- ==== Sys2Proof/Machine/Arq.lean ====
section
/-! DEFINITION. The ARQ Transfer Engine (42_arq.md): the meanings of SEND, RECEIVE, I(s), RR(s) and REJ(s). -/

namespace Sys2Proof.Machine

/-! ### SEND and RECEIVE -/

/-- 42_arq.md R210: an accepted SEND on a Connection. -/
def State.sendAccepted (s : State) (p : Bytes) : State :=
  State.beginAttempts
    (State.startOperation { s with txLen := p.length, txBuf := s.infoFrame p, attempts := 0 }) .send

/-- SEND (42_arq.md R210). The length check comes before the connection check. -/
def execSend (p : Bytes) (s : State) : Outcome :=
  if s.phase ≠ .idle then .refused .commandPending
  else if sendLengthOk s p then
    if s.conn = .closed then .next (s.respond (.err .notConnected)) else .next (s.sendAccepted p)
  else .refused .badSendLength

/-- 42_arq.md R220: an accepted RECEIVE on a Connection. -/
def State.receiveAccepted (s : State) : State := { s.startOperation with phase := .recvWaitI }

/-- RECEIVE (42_arq.md R220). -/
def execReceive (s : State) : Outcome :=
  if s.phase ≠ .idle then .refused .commandPending
  else if s.conn = .closed then .next (s.respond (.err .notConnected))
  else .next s.receiveAccepted

/-! ### Information frames -/

/-- 42_arq.md R222: `deliver(data)`. The RR carries the new expected bit. -/
def State.deliver (s : State) (data : Bytes) : State :=
  State.respond ({ s with rxBuf := data, nr := !s.nr }.sendControl (rrType (!s.nr))) (.ok data.length)

/-- 42_arq.md R223: `duplicate()`, re-acknowledged and not delivered. -/
def State.duplicate (s : State) : State := s.sendControl (rrType s.nr)

/-- 42_arq.md R224: `reject()`. -/
def State.reject (s : State) : State := s.sendControl (rejType s.nr)

/-- 42_arq.md R221: an I-frame with sequence bit `b` in `RECV_WAIT_I`. The BCC2 check comes before the sequence check
(R224). A data field of an impossible length is no frame and is dropped (40_frame_codec.md R146, R148; log 8). -/
def State.receiveInfo (s : State) (b : Bit) (data : Bytes) (bcc : Byte) : State :=
  if infoLengthOk s data then
    if xorFold data = bcc then if b = s.nr then s.deliver data else s.duplicate else s.reject
  else s

/-- An I-frame with sequence bit `b` in the phase in progress: only `RECV_WAIT_I` awaits one (42_arq.md R216,
41_connection.md R182). -/
def informationFrame (b : Bit) (data : Bytes) (bcc : Byte) (s : State) : Outcome :=
  match s.phase with
  | .idle => .refused .portReadWhileIdle
  | .recvWaitI => .next (s.receiveInfo b data bcc)
  | .openIWaitUa => .next s
  | .openRWaitSet => .next s
  | .sendWaitAck => .next s
  | .closeIWaitDisc => .next s
  | .closeRWaitDisc => .next s
  | .closeRWaitUa => .next s

/-- I(0). -/
def execI0 (data : Bytes) (bcc : Byte) (s : State) : Outcome := informationFrame false data bcc s

/-- I(1). -/
def execI1 (data : Bytes) (bcc : Byte) (s : State) : Outcome := informationFrame true data bcc s

/-! ### Acknowledgements -/

/-- A frame that only `SEND_WAIT_ACK` awaits, with effect `f` there (42_arq.md R212, R226; 41_connection.md R182). -/
def acknowledgement (f : State → State) (s : State) : Outcome :=
  match s.phase with
  | .idle => .refused .portReadWhileIdle
  | .sendWaitAck => .next (f s)
  | .openIWaitUa => .next s
  | .openRWaitSet => .next s
  | .recvWaitI => .next s
  | .closeIWaitDisc => .next s
  | .closeRWaitDisc => .next s
  | .closeRWaitUa => .next s

/-- 42_arq.md R212: RR with bit `b` acknowledges the frame with sequence bit `NS` when `b = !NS`. -/
def State.onRr (s : State) (b : Bit) : State := if b = !s.ns then s.sendAcked else s

/-- 42_arq.md R212: REJ with bit `b` rejects the frame with sequence bit `NS` when `b = NS`. -/
def State.onRej (s : State) (b : Bit) : State := if b = s.ns then s.sendRejected else s

/-- RR(0). -/
def execRr0 (s : State) : Outcome := acknowledgement (fun s => s.onRr false) s

/-- RR(1). -/
def execRr1 (s : State) : Outcome := acknowledgement (fun s => s.onRr true) s

/-- REJ(0). -/
def execRej0 (s : State) : Outcome := acknowledgement (fun s => s.onRej false) s

/-- REJ(1). -/
def execRej1 (s : State) : Outcome := acknowledgement (fun s => s.onRej true) s

end Sys2Proof.Machine
end

