-- ==== Sys2Proof/Machine/Connection.lean ====
section
/-! DEFINITION. The Connection State Machine (41_connection.md): the meanings of OPEN, CLOSE, SET, UA and DISC. A
frame's meaning is what the phase in progress does with it; a phase that does not await it discards it (R182,
42_arq.md R216 and R226). -/

namespace Sys2Proof.Machine

/-! ### OPEN -/

/-- 41_connection.md R171: `open_initiator()`. -/
def State.openInitiator (s : State) : State :=
  State.beginAttempts { s with txBuf := encodeC s.par.aI s.par.cSet } .openI

/-- 41_connection.md R170: what an accepted OPEN latches before it opens the port. -/
def State.latchOpen (s : State) (role : Role) (ch rate n t : Nat) : State :=
  State.startOperation
    { s with role := role, cfgCh := ch, cfgRate := rate, cfgN := n, cfgT := t, attempts := 0, discSeen := false }

/-- 41_connection.md R170 and R177: an accepted OPEN from its call of the port on. -/
def State.openPort (s : State) : State :=
  let s' := s.emit (.portOpen s.cfgCh s.cfgRate)
  if s.openOk then
    match s.role with
    | .initiator => State.openInitiator { s' with portOpen := true }
    | .responder => { s' with portOpen := true, phase := .openRWaitSet }
  else s'.fail .channelUnavailable

/-- OPEN (41_connection.md R170). -/
def execOpen (role : Role) (ch rate n t : Nat) (s : State) : Outcome :=
  if s.phase ≠ .idle then .refused .commandPending
  else if s.conn = .connected then .refused .openWhileConnected
  else if openOperandsOk s n t then .next (s.latchOpen role ch rate n t).openPort
  else .refused .operandOutOfRange

/-! ### CLOSE -/

/-- 41_connection.md R191: `close_initiator()`. -/
def State.closeInitiator (s : State) : State :=
  State.beginAttempts { s with txBuf := encodeC s.par.aI s.par.cDisc } .closeI

/-- 41_connection.md R196: `responder_disc()`. -/
def State.responderDisc (s : State) : State :=
  State.beginAttempts { s with txBuf := encodeC s.par.aR s.par.cDisc } .closeR

/-- 41_connection.md R194: `close_responder()`. -/
def State.closeResponder (s : State) : State :=
  if s.discSeen then State.responderDisc { s with discSeen := false } else { s with phase := .closeRWaitDisc }

/-- 41_connection.md R190: an accepted CLOSE of a Connection; `ROLE`, not the channel, chooses the path. -/
def State.closeAccepted (s : State) : State :=
  let s' := State.startOperation { s with attempts := 0 }
  match s.role with
  | .initiator => s'.closeInitiator
  | .responder => s'.closeResponder

/-- CLOSE (41_connection.md R190). -/
def execClose (s : State) : Outcome :=
  if s.phase ≠ .idle then .refused .commandPending
  else if s.conn = .closed then .next (s.respond (.err .notConnected))
  else .next s.closeAccepted

/-! ### SET, UA, DISC -/

/-- SET: answered by `OPEN_R_WAIT_SET` with one UA (41_connection.md R178), discarded by every other phase. -/
def execSet (s : State) : Outcome :=
  match s.phase with
  | .idle => .refused .portReadWhileIdle
  | .openRWaitSet => .next (s.emit (.tx (encodeC s.par.aR s.par.cUa))).establishedResponder
  | .openIWaitUa => .next s
  | .sendWaitAck => .next s
  | .recvWaitI => .next s
  | .closeIWaitDisc => .next s
  | .closeRWaitDisc => .next s
  | .closeRWaitUa => .next s

/-- UA: ends OPEN as Initiator (41_connection.md R172) and CLOSE as Responder (R197). -/
def execUa (s : State) : Outcome :=
  match s.phase with
  | .idle => .refused .portReadWhileIdle
  | .openIWaitUa => .next s.establishedInitiator
  | .closeRWaitUa => .next (s.disarm.finishClose (.ok 0))
  | .openRWaitSet => .next s
  | .sendWaitAck => .next s
  | .recvWaitI => .next s
  | .closeIWaitDisc => .next s
  | .closeRWaitDisc => .next s

/-- 42_arq.md R225: `peer_closing()`. -/
def State.peerClosing (s : State) : State := State.respond { s with discSeen := true } (.ok 0)

/-- DISC: ends CLOSE as Initiator (41_connection.md R192), starts the Responder's DISC (R195), ends RECEIVE with the
end of the stream (42_arq.md R225). -/
def execDisc (s : State) : Outcome :=
  match s.phase with
  | .idle => .refused .portReadWhileIdle
  | .closeIWaitDisc => .next ((s.disarm.emit (.tx (encodeC s.par.aI s.par.cUa))).finishClose (.ok 0))
  | .closeRWaitDisc => .next s.responderDisc
  | .recvWaitI => .next s.peerClosing
  | .openIWaitUa => .next s
  | .openRWaitSet => .next s
  | .sendWaitAck => .next s
  | .closeRWaitUa => .next s

end Sys2Proof.Machine
end

