-- ==== Sys2Proof/Machine/Dispatch.lean ====
section
/-! DEFINITION. The dispatch of an instruction to its meaning: one arm per constructor of Instr. -/

namespace Sys2Proof.Machine

def exec (i : Instr) (s : State) : Host.Outcome State Fault Refusal :=
  match i with
  | .set => Sys2Proof.Machine.execSet s
  | .ua => Sys2Proof.Machine.execUa s
  | .disc => Sys2Proof.Machine.execDisc s
  | .i0 data bcc => Sys2Proof.Machine.execI0 data bcc s
  | .i1 data bcc => Sys2Proof.Machine.execI1 data bcc s
  | .rr0 => Sys2Proof.Machine.execRr0 s
  | .rr1 => Sys2Proof.Machine.execRr1 s
  | .rej0 => Sys2Proof.Machine.execRej0 s
  | .rej1 => Sys2Proof.Machine.execRej1 s
  | .openCmd role ch rate n t => Sys2Proof.Machine.execOpen role ch rate n t s
  | .sendCmd p => Sys2Proof.Machine.execSend p s
  | .receiveCmd => Sys2Proof.Machine.execReceive s
  | .closeCmd => Sys2Proof.Machine.execClose s

end Sys2Proof.Machine
end

