-- ==== Sys2Proof/Machine/Events.lean ====
section
/-! DEFINITION. What one input event does (00_scope.md R14), how the step takes it, and how the bytes of an
instruction come to be what the step takes next. -/

namespace Sys2Proof.Machine

/-- A `CMD` event: the command its byte and operands spell runs; a byte that spells none is refused
(30_encoding.md R110, 60_exceptions.md R282 case 4). -/
def onCommand (b : Byte) (o : Operands) (s : State) : Outcome :=
  if s.phase ≠ .idle then .refused .commandPending
  else
    match decodeCommand b o with
    | .ok i => exec i s
    | .error _ => .refused .malformedCommand

/-- The parser's step on byte `b` (40_frame_codec.md R140), with the peer's address expected. -/
def State.parseByte (s : State) (b : Byte) : Parser × ParserEvent := s.parser.parse s.par s.peerAddr b

/-- A `BYTE` event: one parser step, then the frame it completes, if any, in the phase in progress
(41_connection.md R182, 42_arq.md R227); refused in `IDLE` (70_reset_and_hazards.md R312). -/
def onByte (b : Byte) (s : State) : Outcome :=
  if s.phase = .idle then .refused .portReadWhileIdle
  else
    match (s.parseByte b).2.instr s.par with
    | some i => exec i (s.setParser (s.parseByte b).1)
    | none => .next (s.setParser (s.parseByte b).1)

/-- A `NOBYTE` event changes no register (60_exceptions.md R293); refused in `IDLE` (70_reset_and_hazards.md R312). -/
def onNoByte (s : State) : Outcome := if s.phase = .idle then .refused .portReadWhileIdle else .next s

/-- What a `TICK` event writes: in a timed phase the timer and, if it fires, the timeout (41_connection.md R182,
42_arq.md R213); in `IDLE` `tick()` alone (43_timeout.md R257, log 17); in the untimed phases nothing. -/
def State.onTick (s : State) : State :=
  match s.phase.timed? with
  | some p => if s.fires then s.tick.onTimeout p else s.tick
  | none => if s.phase = .idle then s.tick else s

/-- One event in a state whose port answers are those of this step. -/
def onEvent (e : Event) (s : State) : Outcome :=
  match e with
  | .cmd b o => onCommand b o s
  | .byte b => onByte b s
  | .noByte => onNoByte s
  | .tick => .next s.onTick

/-- The state in which an input is taken: the input removed from the pending ones, its port answers sampled. -/
def State.take (s : State) (i : Input) (rest : List Input) : State :=
  { s with input := rest, openOk := i.openOk, closeOk := i.closeOk }

/-- One step: parameters that fail 00_scope.md R9 are refused (60_exceptions.md R282 case 5); else the oldest pending
input is taken; with none the block waits unchanged (60_exceptions.md R295, log 4). -/
def takeInput (s : State) : Outcome :=
  if paramsOk s.par then
    match s.input with
    | [] => .next s
    | i :: rest => onEvent i.event (s.take i rest)
  else .refused .badParameters

/-! ### Placing an instruction where the step takes it (log 14) -/

/-- A phase that awaits a frame of type `f`, for a block that has none in progress. -/
def awaitingPhase : FrameType → Phase
  | .set => .openRWaitSet
  | .ua => .openIWaitUa
  | .disc => .recvWaitI
  | .i0 => .recvWaitI
  | .i1 => .recvWaitI
  | .rr0 => .sendWaitAck
  | .rr1 => .sendWaitAck
  | .rej0 => .sendWaitAck
  | .rej1 => .sendWaitAck

/-- The data field a frame has put into `ACC` before its closing FLAG. -/
def dataField : Instr → Bytes
  | .i0 d x => d ++ [x]
  | .i1 d x => d ++ [x]
  | .set => []
  | .ua => []
  | .disc => []
  | .rr0 => []
  | .rr1 => []
  | .rej0 => []
  | .rej1 => []
  | .openCmd .. => []
  | .sendCmd _ => []
  | .receiveCmd => []
  | .closeCmd => []

/-- The parser state in which only the closing FLAG of a frame of type `f` is missing. -/
def lastPState : FrameType → PState
  | .i0 => .data
  | .i1 => .data
  | .set => .gotBcc1
  | .ua => .gotBcc1
  | .disc => .gotBcc1
  | .rr0 => .gotBcc1
  | .rr1 => .gotBcc1
  | .rej0 => .gotBcc1
  | .rej1 => .gotBcc1

/-- An event with port answers that succeed. -/
def Input.ofEvent (e : Event) : Input := { event := e, openOk := true, closeOk := true }

/-- `s` with instruction `i` as what the next step takes: a command as the next event; a frame as its closing FLAG, the
parser holding the rest of it, in a phase that reads the port. -/
def State.place (s : State) (i : Instr) : State :=
  match i.frameType?, encode s.par s.role i with
  | some f, _ =>
    { s with
      phase := if s.phase = .idle then awaitingPhase f else s.phase
      pState := lastPState f
      pCtrl := control s.par f
      acc := dataField i
      input := Input.ofEvent (.byte FLAG) :: s.input }
  | none, .command b o => { s with input := Input.ofEvent (.cmd b o) :: s.input }
  | none, .frame _ => s

/-- `s` with the word of spec/opcode_table.json as what the next step takes; a word that is no instruction becomes a
command event that the step refuses. -/
def placeWord (s : State) (nbits w : Nat) : State :=
  match tableInstr s.par nbits w with
  | some i => s.place i
  | none => { s with input := Input.ofEvent (.cmd (BitVec.ofNat 8 w) zeroOperands) :: s.input }

end Sys2Proof.Machine
end

