-- ==== Sys2Proof/Machine/Step.lean ====
section
/-! DEFINITION. The step of the link engine: one input event (00_scope.md R14, R16), and the host's way to place an
instruction where the step takes it (log 14). -/

namespace Sys2Proof.Machine

/-- One step of the link engine. -/
def step (s : State) : Host.Outcome State Fault Refusal := takeInput s

/-- `s` with the instruction of a word of spec/opcode_table.json stored where `step` takes its next one. -/
def State.withFetchWord (s : State) (nbits w : Nat) : State := placeWord s nbits w

end Sys2Proof.Machine
end

