-- ==== Sys2Proof/Machine/System.lean ====
section
/-! DEFINITION. The system of interest (00_scope.md R15, 60_exceptions.md R294): two link engines that share nothing but
a channel. The channel is the environment: which engine steps next and what it is given are a move, and no rule
constrains the moves (log 19). -/

namespace Sys2Proof.Machine

/-- 20_memory.md R72: the transmit stream of a list of actions, the concatenation of its `TX` byte lists. -/
def txStream : List Action → Bytes
  | [] => []
  | .tx bs :: as => bs ++ txStream as
  | .portOpen _ _ :: as => txStream as
  | .portClose :: as => txStream as
  | .resp _ :: as => txStream as

/-- Two link engines. -/
structure Link where
  left : State
  right : State
  deriving DecidableEq, Repr

/-- One of the two engines. -/
inductive Side where
  | left
  | right
  deriving DecidableEq, Repr

/-- One move of the environment: the engine that steps, and its input. -/
structure Move where
  side : Side
  input : Input
  deriving DecidableEq, Repr

/-- One engine takes one input of the environment. -/
def State.react (s : State) (i : Input) : Outcome := step { s with input := [i] }

/-- One move: the chosen engine takes its input, the other one does nothing. -/
def Link.move (l : Link) (m : Move) : Host.Outcome Link Fault Refusal :=
  match m.side with
  | .left =>
    match l.left.react m.input with
    | .next s => .next { l with left := s }
    | .fault r => .fault r
    | .refused r => .refused r
  | .right =>
    match l.right.react m.input with
    | .next s => .next { l with right := s }
    | .fault r => .fault r
    | .refused r => .refused r

/-- A run of moves, up to the first refusal. -/
def Link.run (l : Link) : List Move → Host.Outcome Link Fault Refusal
  | [] => .next l
  | m :: ms =>
    match l.move m with
    | .next l' => l'.run ms
    | .fault r => .fault r
    | .refused r => .refused r

/-- 60_exceptions.md R294: each engine starts at its own reset, with the same parameters (70_reset_and_hazards.md
R303). -/
def Link.reset (c : Config) : Link where
  left := { State.reset with par := c }
  right := { State.reset with par := c }

end Sys2Proof.Machine
end

