-- ==== Sys2Proof/Safety.lean ====
section
/-! DEFINITION. The terms the statements use: the invariants of 10_state.md R46 with what makes them inductive, the
widths of the registers, what a step has emitted, which frames a phase awaits, agreement of two states outside the
registers that hold no value, and the receiver's runs of 42_arq.md R228. -/

namespace Sys2Proof.Machine

/-! ### Invariants -/

/-- The parser registers agree with the parser state: `ACC` is bounded (10_state.md R46 item 5) and empty outside the
data field, and `P_CTRL` holds the control byte the state has checked (40_frame_codec.md R143, R144). -/
structure ParserInv (c : Config) (p : Parser) : Prop where
  acc_bounded : p.acc.length ≤ c.maxPayload + 1
  acc_empty : p.pState ≠ .data → p.pState ≠ .esc → p.acc = []
  ctrl_known : p.pState = .gotCtrl → ∃ f, p.pCtrl = control c f
  ctrl_control : p.pState = .gotBcc1 → ∃ f, (controlInstr f).isSome = true ∧ p.pCtrl = control c f
  ctrl_info : p.pState = .data ∨ p.pState = .esc → ∃ s, p.pCtrl = cI c s

/-- 10_state.md R46, with the facts that make it inductive. -/
structure LinkInv (s : State) : Prop where
  /-- R46 item 1. -/
  attempts_bounded : s.phase.timed? ≠ none → s.attempts ≤ s.cfgN
  /-- R46 item 2. -/
  timer_timed : s.tmrArmed = true → s.phase.timed? ≠ none
  /-- R46 item 3. -/
  port_held : s.portOpen = true ↔ s.conn = .connected ∨ s.phase = .openIWaitUa ∨ s.phase = .openRWaitSet
  /-- R46 item 4. -/
  connected : s.phase = .sendWaitAck ∨ s.phase = .recvWaitI ∨ s.phase = .closeIWaitDisc ∨ s.phase = .closeRWaitDisc
    ∨ s.phase = .closeRWaitUa → s.conn = .connected
  /-- R46 item 5, and what the parser state says of the parser registers. -/
  parser_inv : ParserInv s.par s.parser
  /-- R46 item 6: the one I-frame that SEND may retransmit carries `NS`. -/
  one_outstanding : s.phase = .sendWaitAck →
    ∃ p, payloadInRange s.par p = true ∧ s.txLen = p.length ∧ s.txBuf = s.infoFrame p
  /-- An OPEN in progress has no Connection yet (41_connection.md R170). -/
  opening_closed : s.phase = .openIWaitUa ∨ s.phase = .openRWaitSet → s.conn = .closed
  /-- CLOSE as Responder has made no attempt while it waits for the DISC (41_connection.md R190, R194). -/
  waiting_disc_no_attempt : s.phase = .closeRWaitDisc → s.attempts = 0
  /-- The Initiator's phases belong to the Initiator, and `TXBUF` holds its SET or DISC (41_connection.md R171, R191). -/
  initiator_frames : (s.phase = .openIWaitUa → s.role = .initiator ∧ s.txBuf = s.controlFrame .set)
    ∧ (s.phase = .closeIWaitDisc → s.role = .initiator ∧ s.txBuf = s.controlFrame .disc)
  /-- The Responder's phases belong to the Responder (41_connection.md R177, R194, R196). -/
  responder_frames : (s.phase = .openRWaitSet ∨ s.phase = .closeRWaitDisc → s.role = .responder)
    ∧ (s.phase = .closeRWaitUa → s.role = .responder ∧ s.txBuf = s.controlFrame .disc)

/-- Every register fits its width or bound (10_state.md R34, R38, R40, R41, R42, R44; 93_implementation_defined.md U4). -/
structure Fits (s : State) : Prop where
  cfgN_fits : s.cfgN < 2 ^ s.par.wRetx
  attempts_fits : s.attempts < 2 ^ s.par.wRetx
  cfgT_fits : s.cfgT < 2 ^ s.par.wTimer
  tmrRem_fits : s.tmrRem < 2 ^ s.par.wTimer
  countdown_bounded : s.tmrArmed = true → s.tmrRem ≤ s.cfgT
  txBuf_bounded : s.txBuf.length ≤ 2 * s.par.maxPayload + 7
  txLen_bounded : s.txLen ≤ s.par.maxPayload
  rxBuf_bounded : s.rxBuf.length ≤ s.par.maxPayload

/-! ### What a step has emitted -/

/-- The answers among a list of actions. -/
def answers (as : List Action) : List Action :=
  as.filter fun
    | .resp _ => true
    | .tx _ => false
    | .portOpen _ _ => false
    | .portClose => false

/-- 30_encoding.md R102: the frame types a role sends. -/
def sendsType : Role → FrameType → Bool
  | .initiator, _ => true
  | .responder, .set => false
  | .responder, .ua => true
  | .responder, .disc => true
  | .responder, .i0 => true
  | .responder, .i1 => true
  | .responder, .rr0 => true
  | .responder, .rr1 => true
  | .responder, .rej0 => true
  | .responder, .rej1 => true

/-- `bs` is a frame that an engine of role `r` sends: its own address, a type of R102, and for an I-frame a payload of a
legal length with its BCC2 (30_encoding.md R91 to R93). -/
def SentFrame (c : Config) (r : Role) (bs : Bytes) : Prop :=
  (∃ f, (controlInstr f).isSome = true ∧ sendsType r f = true ∧ bs = encodeC (addr c r) (control c f))
    ∨ ∃ b p, payloadInRange c p = true ∧ bs = encodeI c (addr c r) b p

/-! ### Frames and phases -/

/-- The frames a phase acts on (41_connection.md R172, R178, R192, R195, R197; 42_arq.md R212, R221). -/
def awaits (s : State) : Instr → Bool
  | .set => s.phase == .openRWaitSet
  | .ua => s.phase == .openIWaitUa || s.phase == .closeRWaitUa
  | .disc => s.phase == .closeIWaitDisc || s.phase == .closeRWaitDisc || s.phase == .recvWaitI
  | .i0 _ _ => s.phase == .recvWaitI
  | .i1 _ _ => s.phase == .recvWaitI
  | .rr0 => s.phase == .sendWaitAck && s.ns == true
  | .rr1 => s.phase == .sendWaitAck && s.ns == false
  | .rej0 => s.phase == .sendWaitAck && s.ns == false
  | .rej1 => s.phase == .sendWaitAck && s.ns == true
  | .openCmd .. => false
  | .sendCmd _ => false
  | .receiveCmd => false
  | .closeCmd => false

/-! ### Registers that hold no value -/

/-- Two states that differ at most in registers no rule has written yet (10_state.md R45): `ROLE` and `CFG_*` with no
Connection and no operation, `P_CTRL` before the parser has taken a control byte. -/
def AgreeOnWritten (s t : State) : Prop :=
  { s with role := t.role, cfgCh := t.cfgCh, cfgRate := t.cfgRate, cfgN := t.cfgN, cfgT := t.cfgT, pCtrl := t.pCtrl } = t
    ∧ (s.conn = .connected ∨ s.phase ≠ .idle →
        s.role = t.role ∧ s.cfgCh = t.cfgCh ∧ s.cfgRate = t.cfgRate ∧ s.cfgN = t.cfgN ∧ s.cfgT = t.cfgT)
    ∧ (s.pState ≠ .idle → s.pState ≠ .gotFlag → s.pState ≠ .gotAddr → s.pCtrl = t.pCtrl)

/-- Two outcomes that are the same refusal, or next states related by `R`. -/
def SameOutcome (R : State → State → Prop) : Outcome → Outcome → Prop
  | .next a, .next b => R a b
  | .refused a, .refused b => a = b
  | .next _, .refused _ => False
  | .refused _, .next _ => False
  | .fault r, _ => nomatch r
  | _, .fault r => nomatch r

/-! ### Runs -/

/-- `s` with `bs` as the bytes the port will return, one `BYTE` event each; `o` and `k` are the port's answers. -/
def State.fed (s : State) (bs : Bytes) (o k : Bool) : State :=
  { s with input := bs.map fun b => { event := .byte b, openOk := o, closeOk := k } }

/-- `s` with `n` `TICK` events as its pending input. -/
def State.ticked (s : State) (n : Nat) (o k : Bool) : State :=
  { s with input := List.replicate n { event := .tick, openOk := o, closeOk := k } }

/-- The number of `TICK`s an attempt lasts (43_timeout.md R254: 0 counts as 1). -/
def State.attemptTicks (s : State) : Nat := max s.cfgT 1

/-- 42_arq.md R228: a frame that reaches the receiver: a copy of the I-frame of the sender's `k`-th SEND, or an I-frame
whose BCC2 check fails. -/
inductive Arrival where
  | copy (k : Nat)
  | damaged (b : Bit) (data : Bytes) (bcc : Byte)
  deriving DecidableEq, Repr

/-- The SENDs whose copies arrive, in order of arrival. -/
def copies : List Arrival → List Nat
  | [] => []
  | .copy k :: as => k :: copies as
  | .damaged _ _ _ :: as => copies as

/-- The frame of an arrival; the `k`-th SEND has sequence bit `bit k` and payload `pay k`. -/
def Arrival.instr (bit : Nat → Bit) (pay : Nat → Bytes) : Arrival → Instr
  | .copy k => infoInstr (bit k) (pay k) (bcc2 (pay k))
  | .damaged b d x => infoInstr b d x

/-- A host that keeps a RECEIVE pending: one is issued when none is, then the frame `i` arrives. -/
def State.receiving (s : State) (i : Instr) : Outcome :=
  if s.phase = .idle then
    match exec .receiveCmd s with
    | .next t => exec i t
    | .fault r => .fault r
    | .refused r => .refused r
  else exec i s

/-- The payloads that the receiver hands to its host over a list of arrivals, each with the arrival that brought it; none
if an arrival is refused. An arrival that ends the RECEIVE leaves `PHASE` at `IDLE`. -/
def deliveries (bit : Nat → Bit) (pay : Nat → Bytes) : List Arrival → State → Option (List (Arrival × Bytes))
  | [], _ => some []
  | a :: as, s =>
    match s.receiving (a.instr bit pay) with
    | .next t =>
      (deliveries bit pay as t).map fun ds => if t.phase = .idle then (a, t.rxBuf) :: ds else ds
    | .fault _ => none
    | .refused _ => none

end Sys2Proof.Machine
end

