-- ==== Sys2Proof/Certificates/Slice0/Obligations.lean ====
section
/-! DEFINITION. The statements for the provers. Each docstring names the rule of spec/ it formalises; a clause that
rests on a choice of the model names the log entry. States are arbitrary unless a hypothesis says otherwise. -/

open Sys2Proof Sys2Proof.Machine

/-! ### Parameters, reset -/

/-- 00_scope.md R9: `paramsOk` is the three checks of R9 (with the bound `MAX_PAYLOAD >= 1` of R10, log 15),
the defaults pass, and a step under parameters that fail is refused (60_exceptions.md R282 case 5). That every step is, also
one with no event, is the model's reading (log 18, DEDUCED). -/
def Obligations.ParameterCheckGuardsEveryStep : Prop :=
  (∀ c : Config, paramsOk c = true ↔
    c.aI ≠ c.aR
    ∧ (∀ f g : FrameType, control c f = control c g → f = g)
    ∧ (∀ r : Role, addr c r ≠ FLAG ∧ addr c r ≠ ESC)
    ∧ (∀ f : FrameType, control c f ≠ FLAG ∧ control c f ≠ ESC)
    ∧ (∀ (r : Role) (f : FrameType), addr c r ^^^ control c f ≠ FLAG ∧ addr c r ^^^ control c f ≠ ESC)
    ∧ 1 ≤ c.maxPayload)
  ∧ paramsOk .default = true
  ∧ ∀ s : State, paramsOk s.par = false → step s = .refused .badParameters

/-- 70_reset_and_hazards.md R300: the registers that have a reset value hold it, and nothing is emitted. -/
def Obligations.ResetHoldsTheResetColumn : Prop :=
  let s : State := core.reset
  s.conn = .closed ∧ s.portOpen = false ∧ s.ns = false ∧ s.nr = false ∧ s.phase = .idle ∧ s.attempts = 0
    ∧ s.discSeen = false ∧ s.txBuf = [] ∧ s.txLen = 0 ∧ s.rxBuf = [] ∧ s.pState = .idle ∧ s.acc = []
    ∧ s.tmrArmed = false ∧ s.tmrRem = 0 ∧ s.out = []

/-- The reset state meets the invariants and the register bounds, whatever the parameters. -/
def Obligations.ResetMeetsTheInvariants : Prop :=
  ∀ c : Config, LinkInv { State.reset with par := c } ∧ Fits { State.reset with par := c }

/-! ### What a step runs -/

/-- The step on a `CMD` event is `exec` of the command that its byte and operands decode to, in the state with the
event removed and the port's answers sampled. -/
def Obligations.StepRunsTheDecodedCommand : Prop :=
  ∀ (s : State) (rest : List Input) (b : Byte) (o : Operands) (openOk closeOk : Bool) (i : Instr),
    paramsOk s.par = true → s.phase = .idle →
    s.input = { event := .cmd b o, openOk := openOk, closeOk := closeOk } :: rest →
    decode s.par s.role (.command b o) = .ok i →
    step s = exec i { s with input := rest, openOk := openOk, closeOk := closeOk }

/-- The step on a `BYTE` event that completes a frame is `exec` of that frame, in the state with the event removed, the
port's answers sampled and the parser registers written; a byte that completes none writes those and nothing else. -/
def Obligations.StepRunsTheDecodedFrame : Prop :=
  ∀ (s : State) (rest : List Input) (b : Byte) (openOk closeOk : Bool) (p : Parser) (e : ParserEvent),
    paramsOk s.par = true → s.phase ≠ .idle →
    s.input = { event := .byte b, openOk := openOk, closeOk := closeOk } :: rest →
    Parser.parse s.par (addr s.par (peer s.role)) { pState := s.pState, pCtrl := s.pCtrl, acc := s.acc } b = (p, e) →
    (∀ i : Instr, e.instr s.par = some i →
      step s = exec i { s with
        input := rest, openOk := openOk, closeOk := closeOk, pState := p.pState, pCtrl := p.pCtrl, acc := p.acc })
    ∧ (e.instr s.par = none →
      step s = .next { s with
        input := rest, openOk := openOk, closeOk := closeOk, pState := p.pState, pCtrl := p.pCtrl, acc := p.acc })

/-- `withFetchWord` places what the very next step runs: for every word the decoder reads, the step is `exec` of the
instruction; for a frame the closing FLAG has been parsed and, where no operation was in progress, `PHASE` is one that
reads the port (log 14). -/
def Obligations.PlacedWordIsWhatTheStepRuns : Prop :=
  ∀ (s : State) (nbits w : Nat) (i : Instr), paramsOk s.par = true → tableInstr s.par nbits w = some i →
    step (s.withFetchWord nbits w) =
      match i.frameType? with
      | none => exec i { s with openOk := true, closeOk := true }
      | some f => exec i { s with
          phase := if s.phase = .idle then awaitingPhase f else s.phase, pState := .idle, pCtrl := control s.par f,
            acc := [], openOk := true, closeOk := true }

/-- Words written out from 30_encoding.md R91, R92 and R110 with the default parameters decode to what they stand for. -/
def Obligations.WrittenWordsDecode : Prop :=
  decode .default .initiator (.frame [0x7E#8, 0x03#8, 0x03#8, 0x00#8, 0x7E#8]) = .ok .set
  ∧ decode .default .responder (.frame [0x7E#8, 0x01#8, 0x07#8, 0x06#8, 0x7E#8]) = .ok .ua
  ∧ decode .default .responder (.frame [0x7E#8, 0x01#8, 0xAB#8, 0xAA#8, 0x7E#8]) = .ok .rr1
  ∧ decode .default .initiator
      (.frame [0x7E#8, 0x03#8, 0x00#8, 0x03#8, 0x7D#8, 0x5E#8, 0x7D#8, 0x5E#8, 0x7E#8]) = .ok (.i0 [0x7E#8] 0x7E#8)
  ∧ decode .default .initiator
      (.command 0x04#8 { channelId := 5, bitRate := 9, maxRetransmissions := 3, timeout := 2 })
      = .ok (.openCmd .responder 5 9 3 2)
  ∧ decode .default .initiator (.command 0x05#8 {}) = .error .roleOnNonOpen
  ∧ decode .default .initiator (.command 0x08#8 {}) = .error .reservedBits

/-! ### Codec -/

/-- 40_frame_codec.md R136: the four equations of `destuff` (none where R136 says undefined),
and its inverting `stuff`. -/
def Obligations.DestuffInvertsStuff : Prop :=
  destuff [] = some []
  ∧ (∀ (y : Byte) (ys : Bytes), destuff (ESC :: y :: ys) = (destuff ys).map (fun r => (y ^^^ STUFF_MASK) :: r))
  ∧ destuff [ESC] = none
  ∧ (∀ (y : Byte) (ys : Bytes), y ≠ ESC → destuff (y :: ys) = (destuff ys).map (fun r => y :: r))
  ∧ ∀ xs : Bytes, destuff (stuff xs) = some xs

/-- 40_frame_codec.md R132 corner cases: no `FLAG` in the output, and every `ESC` of it is followed by `0x5E` or `0x5D`. -/
def Obligations.StuffedBytesHoldNoFlag : Prop :=
  ∀ xs : Bytes, FLAG ∉ stuff xs
    ∧ ∀ k : Nat, (stuff xs)[k]? = some ESC → (stuff xs)[k + 1]? = some 0x5E#8 ∨ (stuff xs)[k + 1]? = some 0x5D#8

/-- 40_frame_codec.md R133: the lengths of stuffed sequences and of frames. -/
def Obligations.FrameLengths : Prop :=
  (∀ xs : Bytes, (stuff xs).length = xs.length + xs.countP reserved)
  ∧ (∀ (c : Config) (a : Byte) (b : Bit) (p : Bytes), payloadInRange c p = true →
      (encodeI c a b p).length = 5 + (stuff (p ++ [bcc2 p])).length
      ∧ 7 ≤ (encodeI c a b p).length ∧ (encodeI c a b p).length ≤ 2 * c.maxPayload + 7)
  ∧ ∀ a k : Byte, (encodeC a k).length = 5

/-- 40_frame_codec.md R131: the check byte, and its being its own inverse. -/
def Obligations.CheckByteIsItsOwnInverse : Prop :=
  bcc2 [] = 0x00#8
  ∧ (∀ (p : Bytes) (x : Byte), bcc2 (p ++ [x]) = bcc2 p ^^^ x)
  ∧ (∀ p : Bytes, bcc2 (p ++ [bcc2 p]) = 0x00#8)
  ∧ ∀ x : Byte, bcc2 [x] = x

/-- 30_encoding.md R99 and R100: a control byte selects exactly the frame type it is the value of; no other byte selects
one. -/
def Obligations.ControlByteSelectsTheFrameType : Prop :=
  ∀ c : Config, paramsOk c = true →
    (∀ (b : Byte) (f : FrameType), frameTypeOf c b = some f ↔ b = control c f)
      ∧ ∀ b : Byte, frameTypeOf c b = none ↔ ∀ f : FrameType, b ≠ control c f

/-- 30_encoding.md R110: the command bytes `0x00` to `0x04` spell the four commands, and no other byte spells one.
That a command ignores the operands it does not have is the model's choice (log 9, DESIGN CHOICE). -/
def Obligations.CommandByteSpellsTheCommand : Prop :=
  ∀ o : Operands,
    decodeCommand 0x00#8 o = .ok (.openCmd .initiator o.channelId o.bitRate o.maxRetransmissions o.timeout)
    ∧ decodeCommand 0x04#8 o = .ok (.openCmd .responder o.channelId o.bitRate o.maxRetransmissions o.timeout)
    ∧ decodeCommand 0x01#8 o = .ok (.sendCmd o.payload)
    ∧ decodeCommand 0x02#8 o = .ok .receiveCmd
    ∧ decodeCommand 0x03#8 o = .ok .closeCmd
    ∧ ∀ b : Byte, 4 < b.toNat → ∃ e : DecodeError, decodeCommand b o = .error e

/-- 40_frame_codec.md R150: feeding the bytes of a frame of the peer to the parser returns `NONE` for every byte but the
last and the frame for the last, and leaves `P_IDLE` with `ACC` empty. A control frame does not write `ACC`; a parser that
hunts for a frame holds an empty one in every state that meets `LinkInv`. -/
def Obligations.ParserDecodesEveryEncodedFrame : Prop :=
  ∀ (c : Config) (r : Role) (q : Parser), paramsOk c = true → q.pState = .idle ∨ q.pState = .gotFlag →
    (∀ (b : Bit) (p : Bytes), payloadInRange c p = true →
      Parser.feed c (addr c r) q (encodeI c (addr c r) b p) =
        ({ pState := .idle, pCtrl := cI c b, acc := [] },
          List.replicate ((encodeI c (addr c r) b p).length - 1) .none ++ [.info b p]))
    ∧ (q.acc = [] → ∀ f : FrameType, (controlInstr f).isSome = true →
      Parser.feed c (addr c r) q (encodeC (addr c r) (control c f)) =
        ({ pState := .idle, pCtrl := control c f, acc := [] }, [.none, .none, .none, .none, .ctrl (control c f)]))

/-- Decoding the encoding of any well-formed instruction, frame or command, gives it back. -/
def Obligations.DecodeInvertsEncode : Prop :=
  ∀ (c : Config) (r : Role) (i : Instr), paramsOk c = true → i.wf c = true → decode c r (encode c r i) = .ok i

/-- 40_frame_codec.md R151: one bit of one byte `w` of the data field flipped, neither making nor breaking a `FLAG` or an
`ESC`: the frame parses to `BADBCC2(s)` at its closing FLAG, with no event before it. -/
def Obligations.SingleBitFlipGivesBadCheck : Prop :=
  ∀ (c : Config) (r : Role) (q : Parser) (b : Bit) (p before : Bytes) (w : Byte) (after : Bytes) (k : Nat),
    paramsOk c = true → payloadInRange c p = true →
    q.pState = .idle ∨ q.pState = .gotFlag →
    stuff (p ++ [bcc2 p]) = before ++ w :: after → k < 8 →
    w ≠ ESC → w ^^^ BitVec.twoPow 8 k ≠ ESC → w ^^^ BitVec.twoPow 8 k ≠ FLAG →
    ∃ (q' : Parser) (d : Bytes) (x : Byte), Parser.feed c (addr c r) q
        ([FLAG, addr c r, cI c b, addr c r ^^^ cI c b] ++ (before ++ (w ^^^ BitVec.twoPow 8 k) :: after) ++ [FLAG]) =
      (q', List.replicate (before.length + after.length + 5) .none ++ [.badBcc2 b d x])

/-- 40_frame_codec.md R152: from any parser state, a `FLAG` and then the bytes of a frame of the peer decode that frame
at its closing FLAG. -/
def Obligations.FlagResynchronisesTheParser : Prop :=
  ∀ (c : Config) (r : Role) (q : Parser), paramsOk c = true →
    (∀ (b : Bit) (p : Bytes), payloadInRange c p = true →
      (Parser.feed c (addr c r) q (FLAG :: encodeI c (addr c r) b p)).2.getLast? = some (.info b p))
    ∧ ∀ f : FrameType, (controlInstr f).isSome = true →
      (Parser.feed c (addr c r) q (FLAG :: encodeC (addr c r) (control c f))).2.getLast? = some (.ctrl (control c f))

/-- 40_frame_codec.md R142 to R145: what the header states do with a byte they do not expect. -/
def Obligations.HeaderFaultsDropTheFrame : Prop :=
  ∀ (c : Config) (ea : Byte) (q : Parser) (b : Byte),
    (q.pState = .idle → b ≠ FLAG → Parser.parse c ea q b = (q, .none))
    ∧ (q.pState = .gotFlag → b ≠ FLAG → b ≠ ea → Parser.parse c ea q b = ({ q with pState := .idle }, .malformed))
    ∧ (q.pState = .gotAddr → b ≠ FLAG → (∀ f : FrameType, b ≠ control c f) →
        Parser.parse c ea q b = ({ q with pState := .idle }, .malformed))
    ∧ (q.pState = .gotCtrl → b ≠ FLAG → b ≠ ea ^^^ q.pCtrl →
        Parser.parse c ea q b = ({ q with pState := .idle }, .malformed))
    ∧ (q.pState = .gotAddr ∨ q.pState = .gotCtrl →
        Parser.parse c ea q FLAG = ({ q with pState := .gotFlag }, .malformed))
    ∧ (q.pState = .gotBcc1 → b ≠ FLAG → Parser.parse c ea q b = ({ q with pState := .idle }, .malformed))

/-- 40_frame_codec.md R146 to R148: the faults of a data field: over-long, escape before FLAG, too short. -/
def Obligations.DataFaultsDropTheFrame : Prop :=
  ∀ (c : Config) (ea : Byte) (q : Parser) (b : Byte),
    (q.pState = .data → b ≠ FLAG → b ≠ ESC → q.acc.length = c.maxPayload + 1 →
      Parser.parse c ea q b = ({ q with acc := [], pState := .idle }, .malformed))
    ∧ (q.pState = .esc → b ≠ FLAG → q.acc.length = c.maxPayload + 1 →
      Parser.parse c ea q b = ({ q with acc := [], pState := .idle }, .malformed))
    ∧ (q.pState = .esc → Parser.parse c ea q FLAG = ({ q with acc := [], pState := .idle }, .malformed))
    ∧ (q.pState = .data → q.acc.length < 2 →
      Parser.parse c ea q FLAG = ({ q with acc := [], pState := .idle }, .malformed))

/-- 40_frame_codec.md R141: every event of a parser whose registers agree with its state is one of R141's five forms, with
R141's bounds, and the registers still agree. -/
def Obligations.ParserEventsCarryValidFrames : Prop :=
  ∀ (c : Config) (ea : Byte) (q : Parser) (b : Byte) (q' : Parser) (e : ParserEvent), paramsOk c = true →
    ParserInv c q → Parser.parse c ea q b = (q', e) →
    ParserInv c q' ∧
    match e with
    | .none => True
    | .malformed => True
    | .ctrl k => ∃ f : FrameType, (controlInstr f).isSome = true ∧ k = control c f
    | .info s d => payloadInRange c d = true ∧ q.pCtrl = cI c s ∧ q.acc = d ++ [bcc2 d]
    | .badBcc2 s d x => payloadInRange c d = true ∧ q.pCtrl = cI c s ∧ q.acc = d ++ [x] ∧ x ≠ bcc2 d

/-! ### Timer -/

/-- 43_timeout.md R254 and R256: after `arm()`, the first `TICK` that fires is the `CFG_T`-th (the first one for
`CFG_T = 0`), whatever the state was. -/
def Obligations.TimerFiresOnTheLastTick : Prop :=
  ∀ (s : State) (k : Nat), k < s.attemptTicks →
    (State.tick^[k] s.arm).fires = decide (k + 1 = s.attemptTicks)
    ∧ (State.tick^[k + 1] s.arm).tmrArmed = !decide (k + 1 = s.attemptTicks)

/-- 43_timeout.md R257: a `TICK` is never refused, and outside the timed phases it writes no register and emits nothing. -/
def Obligations.TickOutsideTimedPhasesHasNoEffect : Prop :=
  ∀ (s : State) (rest : List Input) (openOk closeOk : Bool), paramsOk s.par = true →
    s.input = { event := .tick, openOk := openOk, closeOk := closeOk } :: rest →
    (∃ t : State, step s = .next t)
    ∧ (LinkInv s → s.phase = .idle ∨ s.phase = .openRWaitSet ∨ s.phase = .recvWaitI ∨ s.phase = .closeRWaitDisc →
        s.fires = false ∧ step s = .next { s with input := rest, openOk := openOk, closeOk := closeOk })

/-- 41_connection.md R182 and 43_timeout.md R254: in a timed phase a `TICK` that does not fire counts down and does
nothing else; with the timer disarmed it does nothing. -/
def Obligations.TickCountsDownInTimedPhases : Prop :=
  ∀ (s : State) (rest : List Input) (openOk closeOk : Bool), paramsOk s.par = true → s.phase.timed? ≠ none →
    s.input = { event := .tick, openOk := openOk, closeOk := closeOk } :: rest →
    (s.tmrArmed = true → 1 < s.tmrRem →
      step s = .next { s with input := rest, openOk := openOk, closeOk := closeOk, tmrRem := s.tmrRem - 1 })
    ∧ (s.tmrArmed = false → step s = .next { s with input := rest, openOk := openOk, closeOk := closeOk })

/-- 60_exceptions.md R293: a `NOBYTE` event changes no register, in every phase that reads the port; in `IDLE`, where the
block does not read it, the event is refused (R282 case 6). -/
def Obligations.NoByteChangesNoRegister : Prop :=
  ∀ (s : State) (rest : List Input) (openOk closeOk : Bool), paramsOk s.par = true →
    s.input = { event := .noByte, openOk := openOk, closeOk := closeOk } :: rest →
    (s.phase ≠ .idle → step s = .next { s with input := rest, openOk := openOk, closeOk := closeOk })
    ∧ (s.phase = .idle → step s = .refused .portReadWhileIdle)

/-- 41_connection.md R187 and R186: a timer that fires with budget left sends `TXBUF` again, counts the attempt and
restarts the countdown, in each of the four timed phases. -/
def Obligations.TimeoutRetransmits : Prop :=
  ∀ (s : State) (rest : List Input) (openOk closeOk : Bool), paramsOk s.par = true → s.phase.timed? ≠ none →
    s.input = { event := .tick, openOk := openOk, closeOk := closeOk } :: rest →
    s.tmrArmed = true → s.tmrRem ≤ 1 → s.attempts < s.cfgN →
    step s = .next { s with
      input := rest, openOk := openOk, closeOk := closeOk, attempts := s.attempts + 1, tmrArmed := true, tmrRem :=
        s.cfgT,
      out := s.out ++ [.tx s.txBuf] }

/-- 41_connection.md R188 with R175, R193 and R198, and 42_arq.md R217: a timer that fires with the budget spent ends the
operation as its phase says. The port's answer to `PORT_CLOSE` does not matter. -/
def Obligations.TimeoutExhaustsTheBudget : Prop :=
  ∀ (s : State) (rest : List Input) (openOk closeOk : Bool), paramsOk s.par = true →
    s.input = { event := .tick, openOk := openOk, closeOk := closeOk } :: rest →
    s.tmrArmed = true → s.tmrRem ≤ 1 → s.cfgN ≤ s.attempts →
    (s.phase = .openIWaitUa →
      step s = .next { s with
        input := rest, openOk := openOk, closeOk := closeOk, tmrArmed := false, tmrRem := 0, portOpen := false,
        phase := .idle, out := s.out ++ [.portClose, .resp (.err .noResponse)] })
    ∧ (s.phase = .sendWaitAck →
      step s = .next { s with
        input := rest, openOk := openOk, closeOk := closeOk, tmrArmed := false, tmrRem := 0, phase := .idle,
        out := s.out ++ [.resp (.err .transferFailed)] })
    ∧ (s.phase = .closeIWaitDisc ∨ s.phase = .closeRWaitUa →
      step s = .next { s with
        input := rest, openOk := openOk, closeOk := closeOk, tmrArmed := false, tmrRem := 0, portOpen := false,
        conn := .closed, discSeen := false, phase := .idle,
        out := s.out ++ [.portClose, .resp (.err .noResponse)] })

/-! ### Host commands -/

/-- 41_connection.md R170, R171, R185 and R186: OPEN as Initiator with a port that opens and a budget of at least one
attempt latches its operands, opens the port, sends SET and arms the timer; everything else is unchanged. That the attempt
machinery sees the `ATTEMPTS`, `TXBUF`, `CFG_N` and `CFG_T` written in the same step is the model's reading (log 6, DEDUCED);
the bound on the operands is its choice (log 10). -/
def Obligations.OpenInitiatorSendsSet : Prop :=
  ∀ (ch rate n t : Nat) (s : State), s.phase = .idle → s.conn = .closed → n < 2 ^ s.par.wRetx → t < 2 ^ s.par.wTimer →
    s.openOk = true → 0 < n →
    exec (.openCmd .initiator ch rate n t) s = .next { s with
      role := .initiator, cfgCh := ch, cfgRate := rate, cfgN := n, cfgT := t, attempts := 1, discSeen := false,
      pState := .idle, acc := [], portOpen := true, phase := .openIWaitUa,
      txBuf := [FLAG, s.par.aI, s.par.cSet, s.par.aI ^^^ s.par.cSet, FLAG], tmrArmed := true, tmrRem := t,
      out := s.out ++ [.portOpen ch rate, .tx [FLAG, s.par.aI, s.par.cSet, s.par.aI ^^^ s.par.cSet, FLAG]] }

/-- 41_connection.md R170 and R177: OPEN as Responder with a port that opens latches its operands and waits for a SET with
no timer, whatever the budget (R189). -/
def Obligations.OpenResponderWaitsForSet : Prop :=
  ∀ (ch rate n t : Nat) (s : State), s.phase = .idle → s.conn = .closed → n < 2 ^ s.par.wRetx → t < 2 ^ s.par.wTimer →
    s.openOk = true →
    exec (.openCmd .responder ch rate n t) s = .next { s with
      role := .responder, cfgCh := ch, cfgRate := rate, cfgN := n, cfgT := t, attempts := 0, discSeen := false,
      pState := .idle, acc := [], portOpen := true, phase := .openRWaitSet, tmrArmed := false,
      out := s.out ++ [.portOpen ch rate] }

/-- 41_connection.md R170 and 60_exceptions.md R271: OPEN with a port that does not open answers `CHANNEL_UNAVAILABLE`,
in either role; the configuration is latched, no frame is sent, `CONN` and `PORT_OPEN` are not written. Operands wider than
their registers are refused: the model's choice (log 10). -/
def Obligations.OpenReportsAFailedPortAndRefusesWideOperands : Prop :=
  ∀ (r : Role) (ch rate n t : Nat) (s : State), s.phase = .idle → s.conn = .closed →
    (n < 2 ^ s.par.wRetx → t < 2 ^ s.par.wTimer → s.openOk = false →
      exec (.openCmd r ch rate n t) s = .next { s with
        role := r, cfgCh := ch, cfgRate := rate, cfgN := n, cfgT := t, attempts := 0, discSeen := false,
        pState := .idle, acc := [], tmrArmed := false, phase := .idle,
        out := s.out ++ [.portOpen ch rate, .resp (.err .channelUnavailable)] })
    ∧ (2 ^ s.par.wRetx ≤ n ∨ 2 ^ s.par.wTimer ≤ t →
      exec (.openCmd r ch rate n t) s = .refused .operandOutOfRange)

/-- 41_connection.md R189: with `CFG_N = 0` OPEN as Initiator, SEND and CLOSE in either role end at once through
`exhausted`, sending no frame and arming no timer. In the OPEN clause `begin_attempts` sees the `CFG_N` written in the same
step, which is the model's reading (log 6, DEDUCED). -/
def Obligations.EmptyBudgetEndsAtOnce : Prop :=
  (∀ (ch rate t : Nat) (s : State), s.phase = .idle → s.conn = .closed → t < 2 ^ s.par.wTimer → s.openOk = true →
    exec (.openCmd .initiator ch rate 0 t) s = .next { s with
      role := .initiator, cfgCh := ch, cfgRate := rate, cfgN := 0, cfgT := t, attempts := 0, discSeen := false,
      pState := .idle, acc := [], portOpen := false, phase := .idle, tmrArmed := false,
      txBuf := [FLAG, s.par.aI, s.par.cSet, s.par.aI ^^^ s.par.cSet, FLAG],
      out := s.out ++ [.portOpen ch rate, .portClose, .resp (.err .noResponse)] })
  ∧ (∀ (p : Bytes) (s : State), s.phase = .idle → s.conn = .connected → payloadInRange s.par p = true → s.cfgN = 0 →
    exec (.sendCmd p) s = .next { s with
      txLen := p.length, txBuf := encodeI s.par (addr s.par s.role) s.ns p, attempts := 0, pState := .idle, acc := [],
      tmrArmed := false, out := s.out ++ [.resp (.err .transferFailed)] })
  ∧ ∀ s : State, s.phase = .idle → s.conn = .connected → s.cfgN = 0 → s.role = .initiator ∨ s.discSeen = true →
    exec .closeCmd s = .next { s with
      attempts := 0, pState := .idle, acc := [], discSeen := false,
      txBuf := encodeC (addr s.par s.role) s.par.cDisc, tmrArmed := false, portOpen := false, conn := .closed,
      out := s.out ++ [.portClose, .resp (.err .noResponse)] }

/-- 42_arq.md R210 and 41_connection.md R186: SEND on a Connection with a budget encodes its payload with the current
`NS`, sends the frame and arms the timer. That the attempt machinery sees the `ATTEMPTS` and `TXBUF` written in the same step
is the model's reading (log 6, DEDUCED). -/
def Obligations.SendTransmitsTheFrame : Prop :=
  ∀ (p : Bytes) (s : State), s.phase = .idle → s.conn = .connected → 1 ≤ p.length → p.length ≤ s.par.maxPayload →
    0 < s.cfgN →
    exec (.sendCmd p) s = .next { s with
      txLen := p.length, txBuf := encodeI s.par (addr s.par s.role) s.ns p, attempts := 1, pState := .idle, acc := [],
      phase := .sendWaitAck, tmrArmed := true, tmrRem := s.cfgT,
      out := s.out ++ [.tx (encodeI s.par (addr s.par s.role) s.ns p)] }

/-- 42_arq.md R220 and 43_timeout.md R253: RECEIVE on a Connection disarms the timer, resets the parser and waits, with no
timer. That R253's "Called when an operation starts" reaches RECEIVE, whose own rule does not name it, is log 16 (DEDUCED);
where `LinkInv` holds the timer is disarmed already. -/
def Obligations.ReceiveWaitsForAFrame : Prop :=
  ∀ s : State, s.phase = .idle → s.conn = .connected →
    exec .receiveCmd s = .next { s with tmrArmed := false, pState := .idle, acc := [], phase := .recvWaitI }

/-- 41_connection.md R190 and R191: CLOSE as Initiator sends DISC. That the attempt machinery sees the `ATTEMPTS` and `TXBUF`
written in the same step is the model's reading (log 6, DEDUCED). -/
def Obligations.CloseInitiatorSendsDisc : Prop :=
  ∀ s : State, s.phase = .idle → s.conn = .connected → s.role = .initiator → 0 < s.cfgN →
    exec .closeCmd s = .next { s with
      attempts := 1, pState := .idle, acc := [], phase := .closeIWaitDisc, tmrArmed := true, tmrRem := s.cfgT,
      txBuf := [FLAG, s.par.aI, s.par.cDisc, s.par.aI ^^^ s.par.cDisc, FLAG],
      out := s.out ++ [.tx [FLAG, s.par.aI, s.par.cDisc, s.par.aI ^^^ s.par.cDisc, FLAG]] }

/-- 41_connection.md R190, R194 and R196: CLOSE as Responder sends its DISC at once when RECEIVE consumed the peer's, and
waits for it, untimed and with the timer disarmed, otherwise. That the attempt machinery sees the `ATTEMPTS` and `TXBUF`
written in the same step is the model's reading (log 6, DEDUCED); so is the disarming of the wait (43_timeout.md R253,
log 16, DEDUCED). -/
def Obligations.CloseResponderAnswersTheDisc : Prop :=
  ∀ s : State, s.phase = .idle → s.conn = .connected → s.role = .responder →
    (s.discSeen = true → 0 < s.cfgN →
      exec .closeCmd s = .next { s with
        attempts := 1, pState := .idle, acc := [], discSeen := false, phase := .closeRWaitUa, tmrArmed := true,
        tmrRem := s.cfgT, txBuf := [FLAG, s.par.aR, s.par.cDisc, s.par.aR ^^^ s.par.cDisc, FLAG],
        out := s.out ++ [.tx [FLAG, s.par.aR, s.par.cDisc, s.par.aR ^^^ s.par.cDisc, FLAG]] })
    ∧ (s.discSeen = false →
      exec .closeCmd s = .next { s with
        attempts := 0, tmrArmed := false, pState := .idle, acc := [], phase := .closeRWaitDisc })

/-- 60_exceptions.md R273: SEND, RECEIVE and CLOSE with `CONN = CLOSED` answer `NOT_CONNECTED` and write nothing else. -/
def Obligations.CommandsWithoutConnectionAnswerNotConnected : Prop :=
  ∀ (i : Instr) (s : State), s.phase = .idle → s.conn = .closed →
    i = .receiveCmd ∨ i = .closeCmd ∨ (∃ p : Bytes, i = .sendCmd p ∧ payloadInRange s.par p = true) →
    exec i s = .next { s with out := s.out ++ [.resp (.err .notConnected)] }

/-- 60_exceptions.md R282: each of the six cases is refused, and a refusal stands for the rest of the run. The model's own
are: that `MAX_PAYLOAD = 0` is among the parameters refused (log 15, DEDUCED), that every step under such parameters is, also one
with no event (log 18, DEDUCED), and which name a step gets when several cases apply (log 27, DESIGN CHOICE). -/
def Obligations.TheSixRefusals : Prop :=
  (∀ s : State, paramsOk s.par = false → ∃ r : Refusal, step s = .refused r)
  ∧ (∀ (s : State) (rest : List Input) (e : Event) (openOk closeOk : Bool), paramsOk s.par = true →
      s.input = { event := e, openOk := openOk, closeOk := closeOk } :: rest →
      (∀ (b : Byte) (o : Operands), e = .cmd b o → s.phase ≠ .idle → step s = .refused .commandPending)
      ∧ (∀ (b : Byte) (o : Operands) (r : Role) (ch rate n t : Nat), e = .cmd b o → s.phase = .idle →
        s.conn = .connected →
          decodeCommand b o = .ok (.openCmd r ch rate n t) → step s = .refused .openWhileConnected)
      ∧ (∀ (b : Byte) (o : Operands) (p : Bytes), e = .cmd b o → s.phase = .idle →
        decodeCommand b o = .ok (.sendCmd p) →
          p.length = 0 ∨ s.par.maxPayload < p.length → step s = .refused .badSendLength)
      ∧ (∀ (b : Byte) (o : Operands), e = .cmd b o → s.phase = .idle → 4 < b.toNat →
        step s = .refused .malformedCommand)
      ∧ (∀ b : Byte, e = .byte b → s.phase = .idle → step s = .refused .portReadWhileIdle)
      ∧ (e = .noByte → s.phase = .idle → step s = .refused .portReadWhileIdle))
  ∧ ∀ (s : State) (r : Refusal) (k : Nat), step s = .refused r → core.run (k + 1) s = .refused r

/-! ### Frames -/

/-- 41_connection.md R178 and R180: a SET connects the waiting Responder, which sends one UA and answers `OK(0)`. -/
def Obligations.SetConnectsTheResponder : Prop :=
  ∀ s : State, s.phase = .openRWaitSet →
    exec .set s = .next { s with
      conn := .connected, ns := false, nr := false, discSeen := false, attempts := 0, phase := .idle,
      out := s.out ++ [.tx [FLAG, s.par.aR, s.par.cUa, s.par.aR ^^^ s.par.cUa, FLAG], .resp (.ok 0)] }

/-- 41_connection.md R172 and R174: a UA connects the waiting Initiator. -/
def Obligations.UaConnectsTheInitiator : Prop :=
  ∀ s : State, s.phase = .openIWaitUa →
    exec .ua s = .next { s with
      tmrArmed := false, conn := .connected, ns := false, nr := false, discSeen := false, attempts := 0, phase := .idle,
      out := s.out ++ [.resp (.ok 0)] }

/-- 41_connection.md R197 and R199: a UA ends the Responder's CLOSE; a port that does not close turns the answer into
`CHANNEL_UNAVAILABLE`. -/
def Obligations.UaEndsTheRespondersClose : Prop :=
  ∀ s : State, s.phase = .closeRWaitUa →
    exec .ua s = .next { s with
      tmrArmed := false, portOpen := false, conn := .closed, discSeen := false, phase := .idle,
      out := s.out ++ [.portClose, .resp (if s.closeOk then .ok 0 else .err .channelUnavailable)] }

/-- 41_connection.md R192 and R199: a DISC ends the Initiator's CLOSE with one final UA. -/
def Obligations.DiscEndsTheInitiatorsClose : Prop :=
  ∀ s : State, s.phase = .closeIWaitDisc →
    exec .disc s = .next { s with
      tmrArmed := false, portOpen := false, conn := .closed, discSeen := false, phase := .idle,
      out := s.out ++ [.tx [FLAG, s.par.aI, s.par.cUa, s.par.aI ^^^ s.par.cUa, FLAG], .portClose,
        .resp (if s.closeOk then .ok 0 else .err .channelUnavailable)] }

/-- 41_connection.md R195, R196, R185 and R189: a DISC starts the waiting Responder's own DISC; with `CFG_N = 0` the CLOSE
ends at once. That the DISC sent is the `TXBUF` written in the same step is the model's reading (log 6, DEDUCED). -/
def Obligations.DiscStartsTheRespondersDisc : Prop :=
  ∀ s : State, s.phase = .closeRWaitDisc →
    (0 < s.cfgN → exec .disc s = .next { s with
      txBuf := [FLAG, s.par.aR, s.par.cDisc, s.par.aR ^^^ s.par.cDisc, FLAG], attempts := s.attempts + 1,
      phase := .closeRWaitUa, tmrArmed := true, tmrRem := s.cfgT,
      out := s.out ++ [.tx [FLAG, s.par.aR, s.par.cDisc, s.par.aR ^^^ s.par.cDisc, FLAG]] })
    ∧ (s.cfgN = 0 → exec .disc s = .next { s with
      txBuf := [FLAG, s.par.aR, s.par.cDisc, s.par.aR ^^^ s.par.cDisc, FLAG], tmrArmed := false, portOpen := false,
      conn := .closed, discSeen := false, phase := .idle,
      out := s.out ++ [.portClose, .resp (.err .noResponse)] })

/-- 42_arq.md R225: a DISC ends a RECEIVE with `OK(0)` and is recorded; no frame is sent. -/
def Obligations.DiscEndsReceive : Prop :=
  ∀ s : State, s.phase = .recvWaitI →
    exec .disc s = .next { s with discSeen := true, phase := .idle, out := s.out ++ [.resp (.ok 0)] }

/-- 42_arq.md R221 and R222: an I-frame (I0 for bit 0, I1 for bit 1) with a valid BCC2 and the expected bit is delivered
and acknowledged with the next expected bit. -/
def Obligations.InfoFrameIsDelivered : Prop :=
  ∀ (s : State) (d : Bytes), s.phase = .recvWaitI → 1 ≤ d.length → d.length ≤ s.par.maxPayload →
    (s.nr = false → exec (.i0 d (bcc2 d)) s = .next { s with
      rxBuf := d, nr := true, phase := .idle,
      out := s.out ++ [.tx (encodeC (addr s.par s.role) s.par.cRr1), .resp (.ok d.length)] })
    ∧ (s.nr = true → exec (.i1 d (bcc2 d)) s = .next { s with
      rxBuf := d, nr := false, phase := .idle,
      out := s.out ++ [.tx (encodeC (addr s.par s.role) s.par.cRr0), .resp (.ok d.length)] })

/-- 42_arq.md R223: an I-frame with a valid BCC2 and the other bit is re-acknowledged with `RR(NR)` and not delivered. -/
def Obligations.DuplicateIsReacknowledged : Prop :=
  ∀ (s : State) (d : Bytes), s.phase = .recvWaitI → 1 ≤ d.length → d.length ≤ s.par.maxPayload →
    (s.nr = true → exec (.i0 d (bcc2 d)) s = .next { s with
      out := s.out ++ [.tx (encodeC (addr s.par s.role) s.par.cRr1)] })
    ∧ (s.nr = false → exec (.i1 d (bcc2 d)) s = .next { s with
      out := s.out ++ [.tx (encodeC (addr s.par s.role) s.par.cRr0)] })

/-- 42_arq.md R224: an I-frame whose BCC2 is invalid is answered with `REJ(NR)`, whatever its bit, and not delivered. -/
def Obligations.DamagedInfoFrameIsRejected : Prop :=
  ∀ (s : State) (b : Bit) (d : Bytes) (x : Byte), s.phase = .recvWaitI → 1 ≤ d.length → d.length ≤ s.par.maxPayload →
    x ≠ bcc2 d →
    exec (infoInstr b d x) s = .next { s with
      out := s.out ++ [.tx (encodeC (addr s.par s.role) (if s.nr then s.par.cRej1 else s.par.cRej0))] }

/-- 42_arq.md R212 and R214: an RR that carries `!NS` ends the SEND with `OK(TXLEN)` and complements `NS`. -/
def Obligations.RrAcknowledgesTheSend : Prop :=
  ∀ s : State, s.phase = .sendWaitAck →
    (s.ns = true → exec .rr0 s = .next { s with
      tmrArmed := false, ns := false, phase := .idle, out := s.out ++ [.resp (.ok s.txLen)] })
    ∧ (s.ns = false → exec .rr1 s = .next { s with
      tmrArmed := false, ns := true, phase := .idle, out := s.out ++ [.resp (.ok s.txLen)] })

/-- 42_arq.md R212 and R215: a REJ that carries `NS` retransmits at once while the budget lasts, and fails the SEND with
`TRANSFER_FAILED` when it is spent. -/
def Obligations.RejRetransmitsWithinTheBudget : Prop :=
  ∀ (s : State) (i : Instr), s.phase = .sendWaitAck → (s.ns = false ∧ i = .rej0) ∨ (s.ns = true ∧ i = .rej1) →
    (s.attempts < s.cfgN → exec i s = .next { s with
      attempts := s.attempts + 1, tmrArmed := true, tmrRem := s.cfgT, out := s.out ++ [.tx s.txBuf] })
    ∧ (s.cfgN ≤ s.attempts → exec i s = .next { s with
      tmrArmed := false, phase := .idle, out := s.out ++ [.resp (.err .transferFailed)] })

/-- 41_connection.md R182, 42_arq.md R216 and R226: a frame that the phase in progress does not await has no effect at
all, so no RR, REJ or UA is sent for it and a DISC is not recorded. -/
def Obligations.UnawaitedFramesAreDiscarded : Prop :=
  ∀ (i : Instr) (s : State), i.frameType? ≠ none → s.phase ≠ .idle → awaits s i = false → exec i s = .next s

/-! ### The whole machine -/

/-- 10_state.md R46: every step keeps the invariants. -/
def Obligations.StepKeepsTheInvariants : Prop := ∀ s s' : State, LinkInv s → step s = .next s' → LinkInv s'

/-- Every step keeps every register within its width or bound (10_state.md R34 to R44). -/
def Obligations.StepKeepsTheRegisterBounds : Prop := ∀ s s' : State, LinkInv s → Fits s → step s = .next s' → Fits s'

/-- 10_state.md R32 and R34, and log 2: `ROLE` and the Link Configuration change only in a step that takes an OPEN command
with no Connection and no operation in progress, and no step changes the parameters. -/
def Obligations.OnlyOpenWritesTheConfiguration : Prop :=
  ∀ s s' : State, step s = .next s' →
    s'.par = s.par
    ∧ ((s'.role = s.role ∧ s'.cfgCh = s.cfgCh ∧ s'.cfgRate = s.cfgRate ∧ s'.cfgN = s.cfgN ∧ s'.cfgT = s.cfgT)
      ∨ ∃ (b : Byte) (o : Operands) (openOk closeOk : Bool) (rest : List Input),
        s.input = { event := .cmd b o, openOk := openOk, closeOk := closeOk } :: rest
          ∧ s.phase = .idle ∧ s.conn = .closed
          ∧ decodeCommand b o = .ok (.openCmd s'.role s'.cfgCh s'.cfgRate s'.cfgN s'.cfgT))

/-- 10_state.md R36: `NS` changes only when a SEND ends with `OK(TXLEN)` or a connection is established (to 0), `NR` only
when a RECEIVE delivers a payload or a connection is established (to 0). -/
def Obligations.SequenceBitsMoveOnlyOnSuccess : Prop :=
  ∀ s s' : State, step s = .next s' →
    (s'.ns = s.ns
      ∨ (s.phase = .sendWaitAck ∧ s'.ns = !s.ns ∧ s'.out = s.out ++ [.resp (.ok s.txLen)])
      ∨ (s'.ns = false ∧ s'.conn = .connected ∧ (s.phase = .openIWaitUa ∨ s.phase = .openRWaitSet)))
    ∧ (s'.nr = s.nr
      ∨ (s.phase = .recvWaitI ∧ s'.nr = !s.nr ∧ s'.out.getLast? = some (.resp (.ok s'.rxBuf.length))
          ∧ 1 ≤ s'.rxBuf.length)
      ∨ (s'.nr = false ∧ s'.conn = .connected ∧ (s.phase = .openIWaitUa ∨ s.phase = .openRWaitSet)))

/-- 30_encoding.md R111 and 10_state.md R37: a step emits an answer exactly when it ends the operation in progress or the
command it takes, and then exactly one; and `PHASE` leaves `IDLE` only by taking a command. -/
def Obligations.EveryCommandIsAnsweredOnce : Prop :=
  ∀ s s' : State, step s = .next s' → ∃ new : List Action, s'.out = s.out ++ new
    ∧ (answers new).length ≤ 1
    ∧ (answers new ≠ [] ↔
        s'.phase = .idle ∧ (s.phase ≠ .idle
          ∨ ∃ (b : Byte) (o : Operands) (openOk closeOk : Bool) (rest : List Input),
            s.input = { event := .cmd b o, openOk := openOk, closeOk := closeOk } :: rest))
    ∧ (s.phase = .idle → s'.phase ≠ .idle →
        ∃ (b : Byte) (o : Operands) (openOk closeOk : Bool) (rest : List Input),
          s.input = { event := .cmd b o, openOk := openOk, closeOk := closeOk } :: rest)

/-- 42_arq.md R218: while a SEND is pending, only the frame in `TXBUF`, with sequence bit `NS`, is transmitted, and it
stays in `TXBUF` until the SEND's answer. -/
def Obligations.SendTransmitsOnlyItsOneFrame : Prop :=
  ∀ s s' : State, LinkInv s → s.phase = .sendWaitAck → step s = .next s' →
    s'.txBuf = s.txBuf
    ∧ (∃ p : Bytes, payloadInRange s.par p = true ∧ s.txBuf = encodeI s.par (addr s.par s.role) s.ns p)
    ∧ (s'.phase = .sendWaitAck ∧ s'.ns = s.ns ∧ (s'.out = s.out ∨ s'.out = s.out ++ [.tx s.txBuf])
      ∨ s'.phase = .idle ∧ ∃ r : Result, s'.out = s.out ++ [.resp r])

/-- 30_encoding.md R93 and R102: every frame a step transmits is a well-formed frame with the sender's own address, of a
type its role sends. -/
def Obligations.EveryTransmittedFrameIsTheRolesOwn : Prop :=
  ∀ s s' : State, LinkInv s → step s = .next s' →
    ∃ new : List Action, s'.out = s.out ++ new ∧ ∀ bs : Bytes, .tx bs ∈ new → SentFrame s'.par s'.role bs

/-- 10_state.md R45: no rule reads a register that holds no value before a rule writes it. Two states that differ only in
such registers step to the same refusal or to states that again differ only in such registers, so the values that log 1
gives them at reset can never be told. -/
def Obligations.StepCannotTellUnwrittenRegisters : Prop :=
  ∀ s t : State, AgreeOnWritten s t → SameOutcome AgreeOnWritten (step s) (step t)

/-- 41_connection.md R187 and R188: with a channel that stays silent, a timed operation with `a` of its `CFG_N` attempts
made and its timer just armed fails after exactly the attempts left and not before: it retransmits at the end of each
attempt but the last, and ends as `exhausted` says at the end of the last one; before that last `TICK` it is still in
its phase and has answered nothing. -/
def Obligations.RetriesExhaustExactly : Prop :=
  ∀ (s : State) (p : TimedPhase) (o k : Bool), paramsOk s.par = true → s.phase = p.phase → 1 ≤ s.attempts →
    s.attempts ≤ s.cfgN →
    s.tmrArmed = true → s.tmrRem = s.cfgT →
    let total := (s.cfgN - s.attempts + 1) * s.attemptTicks
    core.run total (s.ticked total o k) =
      .next (State.exhausted { s with
        input := [], openOk := o, closeOk := k, attempts := s.cfgN, tmrArmed := false, tmrRem := 0,
        out := s.out ++ List.replicate (s.cfgN - s.attempts) (.tx s.txBuf) } p)
    ∧ ∀ m : Nat, m < total → ∃ u : State, core.run m (s.ticked total o k) = .next u ∧ u.phase = p.phase
        ∧ u.out = s.out ++ List.replicate (m / s.attemptTicks) (.tx s.txBuf)

/-- 42_arq.md R228, at the receiver: over arrivals that keep the order of the SENDs (copies lost, repeated or damaged in
any way that the BCC2 check detects), no SEND is delivered twice, what is delivered is what was sent, and no damaged
frame is delivered. -/
def Obligations.EachSendIsDeliveredAtMostOnce : Prop :=
  ∀ (s : State) (bit : Nat → Bit) (pay : Nat → Bytes) (arrivals : List Arrival), s.conn = .connected →
    s.phase = .idle ∨ s.phase = .recvWaitI →
    (copies arrivals).Pairwise (· ≤ ·) → (∀ (b : Bit) (d : Bytes) (x : Byte), .damaged b d x ∈ arrivals → x ≠ bcc2 d) →
    ∃ ds : List (Arrival × Bytes), deliveries bit pay arrivals s = some ds
      ∧ (∀ (a : Arrival) (d : Bytes), (a, d) ∈ ds → ∃ k : Nat, a = .copy k ∧ d = pay k)
      ∧ (ds.map Prod.fst).Nodup

/-- 40_frame_codec.md R150 with 42_arq.md R210, R214, R222 and R229: over a channel that loses nothing, the bytes of a
pending SEND deliver its payload at a peer that waits for it, and the bytes of the peer's answer end the SEND with
`OK(len)`; the two engines' sequence bits agree again. -/
def Obligations.CleanTransferDeliversThePayload : Prop :=
  ∀ (x y : State) (p : Bytes) (o k : Bool), paramsOk x.par = true → y.par = x.par → y.role = peer x.role →
    x.phase = .sendWaitAck → payloadInRange x.par p = true → x.txLen = p.length →
    x.txBuf = encodeI x.par (addr x.par x.role) x.ns p → x.pState = .idle ∨ x.pState = .gotFlag →
    y.phase = .recvWaitI → y.nr = x.ns → y.pState = .idle ∨ y.pState = .gotFlag →
    ∃ y' x' : State, core.run x.txBuf.length (y.fed x.txBuf o k) = .next y'
      ∧ y'.phase = .idle ∧ y'.rxBuf = p ∧ y'.nr = !y.nr
      ∧ y'.out = y.out ++ [.tx (encodeC (addr y.par y.role) (cRR y.par (!y.nr))), .resp (.ok p.length)]
      ∧ core.run 5 (x.fed (encodeC (addr y.par y.role) (cRR y.par (!y.nr))) o k) = .next x'
      ∧ x'.phase = .idle ∧ x'.out = x.out ++ [.resp (.ok p.length)] ∧ x'.ns = y'.nr

/-- 41_connection.md R172, R174, R178 and R180: over a channel that loses nothing, the SET of an Initiator that opens
connects a waiting Responder, whose UA connects the Initiator, both with `NS = NR = 0`. -/
def Obligations.OpenHandshakeConnectsBothEnds : Prop :=
  ∀ (x y : State) (o k : Bool), paramsOk x.par = true → y.par = x.par → x.role = .initiator → y.role = .responder →
    x.phase = .openIWaitUa → x.txBuf = encodeC x.par.aI x.par.cSet → x.pState = .idle ∨ x.pState = .gotFlag →
    y.phase = .openRWaitSet → y.pState = .idle ∨ y.pState = .gotFlag →
    ∃ y' x' : State, core.run 5 (y.fed x.txBuf o k) = .next y'
      ∧ y'.out = y.out ++ [.tx (encodeC y.par.aR y.par.cUa), .resp (.ok 0)]
      ∧ core.run 5 (x.fed (encodeC y.par.aR y.par.cUa) o k) = .next x'
      ∧ x'.out = x.out ++ [.resp (.ok 0)]
      ∧ (x'.conn = .connected ∧ x'.ns = false ∧ x'.nr = false ∧ x'.phase = .idle)
      ∧ y'.conn = .connected ∧ y'.ns = false ∧ y'.nr = false ∧ y'.phase = .idle
end

