-- ==== Sys2Proof/Laws/Codec.lean ====
section
/-! SUPPORT. Lemmas of the codec: what the parameter check gives, the tables, the parser one byte at a time and over
stuffed data. -/

namespace Sys2Proof

open Machine

/-! ### What the parameter check gives -/

theorem mem_frameTypes (f : FrameType) : f ∈ frameTypes := by cases f <;> simp [frameTypes]

theorem reserved_false {b : Byte} : reserved b = false ↔ b ≠ FLAG ∧ b ≠ ESC := by simp [reserved]

section
variable {c : Config} (h : paramsOk c = true)
include h

theorem paramsOk_addr_ne : c.aI ≠ c.aR := by
  simp only [paramsOk, Bool.and_eq_true, bne_iff_ne] at h
  exact h.1.1.1

theorem paramsOk_control_injective {f g : FrameType} (e : control c f = control c g) : f = g := by
  simp only [paramsOk, Bool.and_eq_true, decide_eq_true_eq] at h
  exact List.inj_on_of_nodup_map h.1.1.2 (mem_frameTypes f) (mem_frameTypes g) e

theorem paramsOk_maxPayload : 1 ≤ c.maxPayload := by
  simp only [paramsOk, Bool.and_eq_true, decide_eq_true_eq] at h
  exact h.2

theorem paramsOk_unreserved {b : Byte} (hb : b ∈ c.aI :: c.aR :: controls c ++ bcc1s c) : b ≠ FLAG ∧ b ≠ ESC := by
  simp only [paramsOk, Bool.and_eq_true, List.all_eq_true, Bool.not_eq_true'] at h
  exact reserved_false.mp (h.1.2 b hb)

theorem paramsOk_addr (r : Role) : addr c r ≠ FLAG ∧ addr c r ≠ ESC :=
  paramsOk_unreserved h (by cases r <;> simp [addr])

theorem paramsOk_control (f : FrameType) : control c f ≠ FLAG ∧ control c f ≠ ESC :=
  paramsOk_unreserved h (by simp [controls, mem_frameTypes])

theorem paramsOk_bcc1 (r : Role) (f : FrameType) :
    addr c r ^^^ control c f ≠ FLAG ∧ addr c r ^^^ control c f ≠ ESC := by
  refine paramsOk_unreserved h ?_
  have : control c f ∈ controls c := List.mem_map_of_mem (mem_frameTypes f)
  cases r <;> simp only [addr, bcc1s, List.cons_append, List.mem_cons, List.mem_append, List.mem_map]
  · exact .inr (.inr (.inr (.inl ⟨_, this, rfl⟩)))
  · exact .inr (.inr (.inr (.inr ⟨_, this, rfl⟩)))

theorem frameTypeOf_control (f : FrameType) : frameTypeOf c (control c f) = some f := by
  cases hg : frameTypeOf c (control c f) with
  | none =>
    have := List.find?_eq_none.mp hg f (mem_frameTypes f)
    simp at this
  | some g =>
    have := List.find?_some hg
    simp only [beq_iff_eq] at this
    rw [paramsOk_control_injective h this]

end

theorem control_of_frameTypeOf {c : Config} {b : Byte} {f : FrameType} (h : frameTypeOf c b = some f) :
    b = control c f := by
  have := List.find?_some h
  simp only [beq_iff_eq] at this
  exact this.symm

/-- The sequence bit that closing a frame reads from `P_CTRL` is the bit of the control byte. -/
theorem seqBit_cI {c : Config} (h : paramsOk c = true) {q : Parser} {b : Bit} (hq : q.pCtrl = cI c b) :
    q.seqBit c = b := by
  have h1 : c.cI1 = control c .i1 := rfl
  cases b
  · simp only [Parser.seqBit, hq, cI, infoType, h1, beq_eq_false_iff_ne]
    intro e; cases paramsOk_control_injective h e
  · simp [Parser.seqBit, hq, cI, infoType, h1]

/-- The two control bytes that open a data field are those of the Information frames. -/
theorem is_info_control {c : Config} (h : paramsOk c = true) (f : FrameType) :
    (control c f == c.cI0 || control c f == c.cI1) = (controlInstr f).isNone := by
  have h0 : c.cI0 = control c .i0 := rfl
  have h1 : c.cI1 = control c .i1 := rfl
  have hi : ∀ g, (control c f == control c g) = decide (f = g) := fun g => by
    by_cases e : f = g
    · simp [e]
    · have : control c f ≠ control c g := fun x => e (paramsOk_control_injective h x)
      simp [e, this]
  rw [h0, h1, hi, hi]
  cases f <;> simp [controlInstr]

theorem infoType_not_control (b : Bit) : (controlInstr (infoType b)).isNone = true := by cases b <;> rfl

/-! ### Check bytes and stuffing -/

theorem xorFold_append (xs ys : Bytes) : xorFold (xs ++ ys) = xorFold xs ^^^ xorFold ys := by
  induction xs with
  | nil => simp [xorFold]
  | cons x xs ih => simp [xorFold, ih, BitVec.xor_assoc]

theorem xorFold_single (x : Byte) : xorFold [x] = x := by simp [xorFold]

theorem stuff_append (xs ys : Bytes) : stuff (xs ++ ys) = stuff xs ++ stuff ys := by
  induction xs with
  | nil => rfl
  | cons x xs ih => simp [stuff, ih]

theorem stuffed_ne_flag {x : Byte} (h : reserved x = true) : x ^^^ STUFF_MASK ≠ FLAG := by
  simp only [reserved, Bool.or_eq_true, beq_iff_eq] at h
  rcases h with rfl | rfl <;> decide

/-! ### Feeding the parser -/

theorem feed_nil (c : Config) (ea : Byte) (q : Parser) : q.feed c ea [] = (q, []) := rfl

theorem feed_cons (c : Config) (ea : Byte) (q : Parser) (b : Byte) (bs : Bytes) :
    q.feed c ea (b :: bs) =
      (((q.parse c ea b).1.feed c ea bs).1, (q.parse c ea b).2 :: ((q.parse c ea b).1.feed c ea bs).2) := rfl

theorem feed_append (c : Config) (ea : Byte) (q : Parser) (xs ys : Bytes) :
    q.feed c ea (xs ++ ys) =
      (((q.feed c ea xs).1.feed c ea ys).1, (q.feed c ea xs).2 ++ ((q.feed c ea xs).1.feed c ea ys).2) := by
  induction xs generalizing q with
  | nil => simp [feed_nil]
  | cons x xs ih => simp [feed_cons, ih]

/-- A parser that hunts takes the header of a frame of the peer and is then in the data field, or waits for the closing
FLAG. -/
theorem feed_header {c : Config} (h : paramsOk c = true) (r : Role) (f : FrameType) {q : Parser}
    (hq : q.pState = .idle ∨ q.pState = .gotFlag) :
    q.feed c (addr c r) [FLAG, addr c r, control c f, addr c r ^^^ control c f] =
      (if (controlInstr f).isNone then { pState := .data, pCtrl := control c f, acc := [] }
        else { pState := .gotBcc1, pCtrl := control c f, acc := q.acc }, List.replicate 4 .none) := by
  have ha := (paramsOk_addr h r).1
  have hc := (paramsOk_control h f).1
  have hx := (paramsOk_bcc1 h r f).1
  have hf := frameTypeOf_control h f
  have hi := is_info_control h f
  have h0 : Parser.parse c (addr c r) q FLAG = ({ q with pState := .gotFlag }, .none) := by
    rcases hq with hq | hq <;> cases q <;> simp_all [Parser.parse]
  rw [feed_cons, h0, feed_cons, feed_cons, feed_cons]
  simp only [Parser.parse, beq_iff_eq, ha, hc, hx, hf, hi, if_false, if_true, Option.isSome_some, feed_nil]
  cases (controlInstr f).isNone <;> simp [List.replicate]

/-- The bytes `stuff` makes of `x` append `x` to the data field, with no event. -/
theorem feed_stuff_one {c : Config} {ea : Byte} {q : Parser} (hq : q.pState = .data) (x : Byte)
    (hl : q.acc.length ≤ c.maxPayload) :
    q.feed c ea (stuff [x]) = ({ q with acc := q.acc ++ [x] }, List.replicate (stuff [x]).length .none) := by
  have hne : ¬ q.acc.length = c.maxPayload + 1 := by omega
  cases hr : reserved x with
  | true =>
    have hx := stuffed_ne_flag hr
    have hxx : x ^^^ STUFF_MASK ^^^ STUFF_MASK = x := by rw [BitVec.xor_assoc]; simp
    have he : (ESC == FLAG) = false := by decide
    simp [stuff, hr, feed_cons, feed_nil, Parser.parse, hq, hx, he, Parser.append, hne, hxx, List.replicate]
  | false =>
    have ⟨h1, h2⟩ := reserved_false.mp hr
    simp [stuff, hr, feed_cons, feed_nil, Parser.parse, hq, h1, h2, Parser.append, hne]

/-- Feeding stuffed data appends the data, with no event, while it fits. -/
theorem feed_stuff {c : Config} {ea : Byte} (xs : Bytes) {q : Parser} (hq : q.pState = .data)
    (hl : q.acc.length + xs.length ≤ c.maxPayload + 1) :
    q.feed c ea (stuff xs) = ({ q with acc := q.acc ++ xs }, List.replicate (stuff xs).length .none) := by
  induction xs generalizing q with
  | nil => simp [stuff, feed_nil]
  | cons x xs ih =>
    simp only [List.length_cons] at hl
    have hs : stuff (x :: xs) = stuff [x] ++ stuff xs := stuff_append [x] xs
    rw [hs, feed_append, feed_stuff_one hq x (by omega)]
    rw [ih (q := { q with acc := q.acc ++ [x] }) hq (by simp; omega)]
    simp [← List.replicate_append_replicate, List.append_assoc]

/-- The closing FLAG of a data field that holds `d` and the check byte `x`. -/
theorem parse_close {c : Config} {ea : Byte} {q : Parser} {d : Bytes} {x : Byte} (hq : q.pState = .data)
    (ha : q.acc = d ++ [x]) (hd : d ≠ []) :
    q.parse c ea FLAG =
      ({ q with acc := [], pState := .idle },
        if xorFold d = x then .info (q.seqBit c) d else .badBcc2 (q.seqBit c) d x) := by
  have hd' : d.isEmpty = false := by simp [hd]
  simp only [Parser.parse, hq, BEq.rfl, if_true, Parser.closeFrame, ha, List.getLast?_append, List.getLast?_singleton,
    Option.some_or, List.dropLast_concat, hd', beq_iff_eq, Bool.false_eq_true, if_false]
  split <;> simp [Parser.seqBit]

/-- Feeding a whole Information frame of the peer. -/
theorem feed_infoFrame {c : Config} (h : paramsOk c = true) (r : Role) {q : Parser}
    (hq : q.pState = .idle ∨ q.pState = .gotFlag) (b : Bit) (d : Bytes) (x : Byte) (hd : payloadInRange c d = true) :
    q.feed c (addr c r) (infoFrame (addr c r) (cI c b) d x) =
      ({ pState := .idle, pCtrl := cI c b, acc := [] },
        List.replicate (4 + (stuff (d ++ [x])).length) .none ++ [if xorFold d = x then .info b d else .badBcc2 b d x]) := by
  simp only [payloadInRange, Bool.and_eq_true, decide_eq_true_eq] at hd
  have hne : d ≠ [] := by rintro rfl; simp at hd
  rw [infoFrame, feed_append, feed_append, cI, feed_header h r (infoType b) hq]
  simp only [infoType_not_control, if_true]
  rw [feed_stuff (d ++ [x]) rfl (by simp; omega)]
  rw [feed_cons, parse_close (d := d) (x := x) rfl (by simp) hne]
  simp [feed_nil, seqBit_cI h (q := { pState := .data, pCtrl := control c (infoType b), acc := _ }) rfl,
    ← List.replicate_append_replicate]

/-- Feeding a whole control frame of the peer. -/
theorem feed_controlFrame {c : Config} (h : paramsOk c = true) (r : Role) {q : Parser}
    (hq : q.pState = .idle ∨ q.pState = .gotFlag) (f : FrameType) (hf : (controlInstr f).isSome = true) :
    q.feed c (addr c r) (encodeC (addr c r) (control c f)) =
      ({ pState := .idle, pCtrl := control c f, acc := q.acc }, List.replicate 4 .none ++ [.ctrl (control c f)]) := by
  have hs : encodeC (addr c r) (control c f) = [FLAG, addr c r, control c f, addr c r ^^^ control c f] ++ [FLAG] := rfl
  have hn : (controlInstr f).isNone = false := by cases hi : controlInstr f <;> simp_all
  rw [hs, feed_append, feed_header h r f hq]
  simp [hn, feed_cons, feed_nil, Parser.parse]

/-! ### Decoding a whole frame -/

/-- Bytes over which the parser returns one event, at the last byte, decode to the frame of that event. -/
theorem scanFrame_of_feed {c : Config} {ea : Byte} (bs : Bytes) {q : Parser} {e : ParserEvent} {i : Instr} {n : Nat}
    (hf : (q.feed c ea bs).2 = List.replicate n .none ++ [e]) (hi : e.instr c = some i) :
    scanFrame c ea q bs = .ok i := by
  induction bs generalizing q n with
  | nil => simp [feed_nil] at hf
  | cons b bs ih =>
    rw [feed_cons] at hf
    rw [scanFrame]
    rcases hp : q.parse c ea b with ⟨q', e'⟩
    rw [hp] at hf
    cases n with
    | zero =>
      simp only [List.replicate_zero, List.nil_append, List.cons.injEq] at hf
      obtain ⟨rfl, h2⟩ := hf
      have hb : bs = [] := by
        cases bs with
        | nil => rfl
        | cons => simp [feed_cons] at h2
      subst hb
      cases e' <;> simp_all [ParserEvent.instr]
    | succ n =>
      simp only [List.replicate_succ, List.cons_append, List.cons.injEq] at hf
      obtain ⟨rfl, h2⟩ := hf
      exact ih h2

theorem decode_infoFrame {c : Config} (h : paramsOk c = true) (r : Role) (b : Bit) (d : Bytes) (x : Byte)
    (hd : payloadInRange c d = true) :
    decodeFrame c (addr c r) (infoFrame (addr c r) (cI c b) d x) = .ok (infoInstr b d x) := by
  have hf := feed_infoFrame h r (q := .hunting) (.inl rfl) b d x hd
  refine scanFrame_of_feed _ (by rw [hf]) ?_
  split
  · rename_i e
    simp [ParserEvent.instr, e]
  · rfl

theorem decode_controlFrame {c : Config} (h : paramsOk c = true) (r : Role) {f : FrameType} {i : Instr}
    (hi : controlInstr f = some i) : decodeFrame c (addr c r) (encodeC (addr c r) (control c f)) = .ok i := by
  have hf := feed_controlFrame h r (q := .hunting) (.inl rfl) f (by simp [hi])
  refine scanFrame_of_feed _ (by rw [hf]) ?_
  simp [ParserEvent.instr, frameTypeOf_control h, hi]

end Sys2Proof
end

