-- ==== Sys2Proof/Laws/State.lean ====
section
/-! SUPPORT. One lemma per field per update of the state, each true by rfl, so that no proof unfolds a record update. -/

namespace Sys2Proof.Machine

variable (s : State)

@[simp] theorem emit_conn (a : Action) : (s.emit a).conn = s.conn := rfl
@[simp] theorem emit_role (a : Action) : (s.emit a).role = s.role := rfl
@[simp] theorem emit_cfgCh (a : Action) : (s.emit a).cfgCh = s.cfgCh := rfl
@[simp] theorem emit_cfgRate (a : Action) : (s.emit a).cfgRate = s.cfgRate := rfl
@[simp] theorem emit_cfgN (a : Action) : (s.emit a).cfgN = s.cfgN := rfl
@[simp] theorem emit_cfgT (a : Action) : (s.emit a).cfgT = s.cfgT := rfl
@[simp] theorem emit_portOpen (a : Action) : (s.emit a).portOpen = s.portOpen := rfl
@[simp] theorem emit_ns (a : Action) : (s.emit a).ns = s.ns := rfl
@[simp] theorem emit_nr (a : Action) : (s.emit a).nr = s.nr := rfl
@[simp] theorem emit_phase (a : Action) : (s.emit a).phase = s.phase := rfl
@[simp] theorem emit_attempts (a : Action) : (s.emit a).attempts = s.attempts := rfl
@[simp] theorem emit_discSeen (a : Action) : (s.emit a).discSeen = s.discSeen := rfl
@[simp] theorem emit_txBuf (a : Action) : (s.emit a).txBuf = s.txBuf := rfl
@[simp] theorem emit_txLen (a : Action) : (s.emit a).txLen = s.txLen := rfl
@[simp] theorem emit_rxBuf (a : Action) : (s.emit a).rxBuf = s.rxBuf := rfl
@[simp] theorem emit_pState (a : Action) : (s.emit a).pState = s.pState := rfl
@[simp] theorem emit_pCtrl (a : Action) : (s.emit a).pCtrl = s.pCtrl := rfl
@[simp] theorem emit_acc (a : Action) : (s.emit a).acc = s.acc := rfl
@[simp] theorem emit_tmrArmed (a : Action) : (s.emit a).tmrArmed = s.tmrArmed := rfl
@[simp] theorem emit_tmrRem (a : Action) : (s.emit a).tmrRem = s.tmrRem := rfl
@[simp] theorem emit_par (a : Action) : (s.emit a).par = s.par := rfl
@[simp] theorem emit_input (a : Action) : (s.emit a).input = s.input := rfl
@[simp] theorem emit_openOk (a : Action) : (s.emit a).openOk = s.openOk := rfl
@[simp] theorem emit_closeOk (a : Action) : (s.emit a).closeOk = s.closeOk := rfl
@[simp] theorem emit_out (a : Action) : (s.emit a).out = s.out ++ [a] := rfl

@[simp] theorem respond_conn (r : Result) : (s.respond r).conn = s.conn := rfl
@[simp] theorem respond_role (r : Result) : (s.respond r).role = s.role := rfl
@[simp] theorem respond_cfgCh (r : Result) : (s.respond r).cfgCh = s.cfgCh := rfl
@[simp] theorem respond_cfgRate (r : Result) : (s.respond r).cfgRate = s.cfgRate := rfl
@[simp] theorem respond_cfgN (r : Result) : (s.respond r).cfgN = s.cfgN := rfl
@[simp] theorem respond_cfgT (r : Result) : (s.respond r).cfgT = s.cfgT := rfl
@[simp] theorem respond_portOpen (r : Result) : (s.respond r).portOpen = s.portOpen := rfl
@[simp] theorem respond_ns (r : Result) : (s.respond r).ns = s.ns := rfl
@[simp] theorem respond_nr (r : Result) : (s.respond r).nr = s.nr := rfl
@[simp] theorem respond_phase (r : Result) : (s.respond r).phase = .idle := rfl
@[simp] theorem respond_attempts (r : Result) : (s.respond r).attempts = s.attempts := rfl
@[simp] theorem respond_discSeen (r : Result) : (s.respond r).discSeen = s.discSeen := rfl
@[simp] theorem respond_txBuf (r : Result) : (s.respond r).txBuf = s.txBuf := rfl
@[simp] theorem respond_txLen (r : Result) : (s.respond r).txLen = s.txLen := rfl
@[simp] theorem respond_rxBuf (r : Result) : (s.respond r).rxBuf = s.rxBuf := rfl
@[simp] theorem respond_pState (r : Result) : (s.respond r).pState = s.pState := rfl
@[simp] theorem respond_pCtrl (r : Result) : (s.respond r).pCtrl = s.pCtrl := rfl
@[simp] theorem respond_acc (r : Result) : (s.respond r).acc = s.acc := rfl
@[simp] theorem respond_tmrArmed (r : Result) : (s.respond r).tmrArmed = s.tmrArmed := rfl
@[simp] theorem respond_tmrRem (r : Result) : (s.respond r).tmrRem = s.tmrRem := rfl
@[simp] theorem respond_par (r : Result) : (s.respond r).par = s.par := rfl
@[simp] theorem respond_input (r : Result) : (s.respond r).input = s.input := rfl
@[simp] theorem respond_openOk (r : Result) : (s.respond r).openOk = s.openOk := rfl
@[simp] theorem respond_closeOk (r : Result) : (s.respond r).closeOk = s.closeOk := rfl
@[simp] theorem respond_out (r : Result) : (s.respond r).out = s.out ++ [.resp r] := rfl

@[simp] theorem fail_conn (e : Err) : (s.fail e).conn = s.conn := rfl
@[simp] theorem fail_role (e : Err) : (s.fail e).role = s.role := rfl
@[simp] theorem fail_cfgCh (e : Err) : (s.fail e).cfgCh = s.cfgCh := rfl
@[simp] theorem fail_cfgRate (e : Err) : (s.fail e).cfgRate = s.cfgRate := rfl
@[simp] theorem fail_cfgN (e : Err) : (s.fail e).cfgN = s.cfgN := rfl
@[simp] theorem fail_cfgT (e : Err) : (s.fail e).cfgT = s.cfgT := rfl
@[simp] theorem fail_portOpen (e : Err) : (s.fail e).portOpen = s.portOpen := rfl
@[simp] theorem fail_ns (e : Err) : (s.fail e).ns = s.ns := rfl
@[simp] theorem fail_nr (e : Err) : (s.fail e).nr = s.nr := rfl
@[simp] theorem fail_phase (e : Err) : (s.fail e).phase = .idle := rfl
@[simp] theorem fail_attempts (e : Err) : (s.fail e).attempts = s.attempts := rfl
@[simp] theorem fail_discSeen (e : Err) : (s.fail e).discSeen = s.discSeen := rfl
@[simp] theorem fail_txBuf (e : Err) : (s.fail e).txBuf = s.txBuf := rfl
@[simp] theorem fail_txLen (e : Err) : (s.fail e).txLen = s.txLen := rfl
@[simp] theorem fail_rxBuf (e : Err) : (s.fail e).rxBuf = s.rxBuf := rfl
@[simp] theorem fail_pState (e : Err) : (s.fail e).pState = s.pState := rfl
@[simp] theorem fail_pCtrl (e : Err) : (s.fail e).pCtrl = s.pCtrl := rfl
@[simp] theorem fail_acc (e : Err) : (s.fail e).acc = s.acc := rfl
@[simp] theorem fail_tmrArmed (e : Err) : (s.fail e).tmrArmed = s.tmrArmed := rfl
@[simp] theorem fail_tmrRem (e : Err) : (s.fail e).tmrRem = s.tmrRem := rfl
@[simp] theorem fail_par (e : Err) : (s.fail e).par = s.par := rfl
@[simp] theorem fail_input (e : Err) : (s.fail e).input = s.input := rfl
@[simp] theorem fail_openOk (e : Err) : (s.fail e).openOk = s.openOk := rfl
@[simp] theorem fail_closeOk (e : Err) : (s.fail e).closeOk = s.closeOk := rfl
@[simp] theorem fail_out (e : Err) : (s.fail e).out = s.out ++ [.resp (.err e)] := rfl

@[simp] theorem sendControl_conn (f : FrameType) : (s.sendControl f).conn = s.conn := rfl
@[simp] theorem sendControl_role (f : FrameType) : (s.sendControl f).role = s.role := rfl
@[simp] theorem sendControl_cfgCh (f : FrameType) : (s.sendControl f).cfgCh = s.cfgCh := rfl
@[simp] theorem sendControl_cfgRate (f : FrameType) : (s.sendControl f).cfgRate = s.cfgRate := rfl
@[simp] theorem sendControl_cfgN (f : FrameType) : (s.sendControl f).cfgN = s.cfgN := rfl
@[simp] theorem sendControl_cfgT (f : FrameType) : (s.sendControl f).cfgT = s.cfgT := rfl
@[simp] theorem sendControl_portOpen (f : FrameType) : (s.sendControl f).portOpen = s.portOpen := rfl
@[simp] theorem sendControl_ns (f : FrameType) : (s.sendControl f).ns = s.ns := rfl
@[simp] theorem sendControl_nr (f : FrameType) : (s.sendControl f).nr = s.nr := rfl
@[simp] theorem sendControl_phase (f : FrameType) : (s.sendControl f).phase = s.phase := rfl
@[simp] theorem sendControl_attempts (f : FrameType) : (s.sendControl f).attempts = s.attempts := rfl
@[simp] theorem sendControl_discSeen (f : FrameType) : (s.sendControl f).discSeen = s.discSeen := rfl
@[simp] theorem sendControl_txBuf (f : FrameType) : (s.sendControl f).txBuf = s.txBuf := rfl
@[simp] theorem sendControl_txLen (f : FrameType) : (s.sendControl f).txLen = s.txLen := rfl
@[simp] theorem sendControl_rxBuf (f : FrameType) : (s.sendControl f).rxBuf = s.rxBuf := rfl
@[simp] theorem sendControl_pState (f : FrameType) : (s.sendControl f).pState = s.pState := rfl
@[simp] theorem sendControl_pCtrl (f : FrameType) : (s.sendControl f).pCtrl = s.pCtrl := rfl
@[simp] theorem sendControl_acc (f : FrameType) : (s.sendControl f).acc = s.acc := rfl
@[simp] theorem sendControl_tmrArmed (f : FrameType) : (s.sendControl f).tmrArmed = s.tmrArmed := rfl
@[simp] theorem sendControl_tmrRem (f : FrameType) : (s.sendControl f).tmrRem = s.tmrRem := rfl
@[simp] theorem sendControl_par (f : FrameType) : (s.sendControl f).par = s.par := rfl
@[simp] theorem sendControl_input (f : FrameType) : (s.sendControl f).input = s.input := rfl
@[simp] theorem sendControl_openOk (f : FrameType) : (s.sendControl f).openOk = s.openOk := rfl
@[simp] theorem sendControl_closeOk (f : FrameType) : (s.sendControl f).closeOk = s.closeOk := rfl
@[simp] theorem sendControl_out (f : FrameType) : (s.sendControl f).out = s.out ++ [.tx (encodeC (addr s.par s.role) (control s.par f))] := rfl

@[simp] theorem arm_conn : (s.arm).conn = s.conn := rfl
@[simp] theorem arm_role : (s.arm).role = s.role := rfl
@[simp] theorem arm_cfgCh : (s.arm).cfgCh = s.cfgCh := rfl
@[simp] theorem arm_cfgRate : (s.arm).cfgRate = s.cfgRate := rfl
@[simp] theorem arm_cfgN : (s.arm).cfgN = s.cfgN := rfl
@[simp] theorem arm_cfgT : (s.arm).cfgT = s.cfgT := rfl
@[simp] theorem arm_portOpen : (s.arm).portOpen = s.portOpen := rfl
@[simp] theorem arm_ns : (s.arm).ns = s.ns := rfl
@[simp] theorem arm_nr : (s.arm).nr = s.nr := rfl
@[simp] theorem arm_phase : (s.arm).phase = s.phase := rfl
@[simp] theorem arm_attempts : (s.arm).attempts = s.attempts := rfl
@[simp] theorem arm_discSeen : (s.arm).discSeen = s.discSeen := rfl
@[simp] theorem arm_txBuf : (s.arm).txBuf = s.txBuf := rfl
@[simp] theorem arm_txLen : (s.arm).txLen = s.txLen := rfl
@[simp] theorem arm_rxBuf : (s.arm).rxBuf = s.rxBuf := rfl
@[simp] theorem arm_pState : (s.arm).pState = s.pState := rfl
@[simp] theorem arm_pCtrl : (s.arm).pCtrl = s.pCtrl := rfl
@[simp] theorem arm_acc : (s.arm).acc = s.acc := rfl
@[simp] theorem arm_tmrArmed : (s.arm).tmrArmed = true := rfl
@[simp] theorem arm_tmrRem : (s.arm).tmrRem = s.cfgT := rfl
@[simp] theorem arm_par : (s.arm).par = s.par := rfl
@[simp] theorem arm_input : (s.arm).input = s.input := rfl
@[simp] theorem arm_openOk : (s.arm).openOk = s.openOk := rfl
@[simp] theorem arm_closeOk : (s.arm).closeOk = s.closeOk := rfl
@[simp] theorem arm_out : (s.arm).out = s.out := rfl

@[simp] theorem disarm_conn : (s.disarm).conn = s.conn := rfl
@[simp] theorem disarm_role : (s.disarm).role = s.role := rfl
@[simp] theorem disarm_cfgCh : (s.disarm).cfgCh = s.cfgCh := rfl
@[simp] theorem disarm_cfgRate : (s.disarm).cfgRate = s.cfgRate := rfl
@[simp] theorem disarm_cfgN : (s.disarm).cfgN = s.cfgN := rfl
@[simp] theorem disarm_cfgT : (s.disarm).cfgT = s.cfgT := rfl
@[simp] theorem disarm_portOpen : (s.disarm).portOpen = s.portOpen := rfl
@[simp] theorem disarm_ns : (s.disarm).ns = s.ns := rfl
@[simp] theorem disarm_nr : (s.disarm).nr = s.nr := rfl
@[simp] theorem disarm_phase : (s.disarm).phase = s.phase := rfl
@[simp] theorem disarm_attempts : (s.disarm).attempts = s.attempts := rfl
@[simp] theorem disarm_discSeen : (s.disarm).discSeen = s.discSeen := rfl
@[simp] theorem disarm_txBuf : (s.disarm).txBuf = s.txBuf := rfl
@[simp] theorem disarm_txLen : (s.disarm).txLen = s.txLen := rfl
@[simp] theorem disarm_rxBuf : (s.disarm).rxBuf = s.rxBuf := rfl
@[simp] theorem disarm_pState : (s.disarm).pState = s.pState := rfl
@[simp] theorem disarm_pCtrl : (s.disarm).pCtrl = s.pCtrl := rfl
@[simp] theorem disarm_acc : (s.disarm).acc = s.acc := rfl
@[simp] theorem disarm_tmrArmed : (s.disarm).tmrArmed = false := rfl
@[simp] theorem disarm_tmrRem : (s.disarm).tmrRem = s.tmrRem := rfl
@[simp] theorem disarm_par : (s.disarm).par = s.par := rfl
@[simp] theorem disarm_input : (s.disarm).input = s.input := rfl
@[simp] theorem disarm_openOk : (s.disarm).openOk = s.openOk := rfl
@[simp] theorem disarm_closeOk : (s.disarm).closeOk = s.closeOk := rfl
@[simp] theorem disarm_out : (s.disarm).out = s.out := rfl

@[simp] theorem setParser_conn (p : Parser) : (s.setParser p).conn = s.conn := rfl
@[simp] theorem setParser_role (p : Parser) : (s.setParser p).role = s.role := rfl
@[simp] theorem setParser_cfgCh (p : Parser) : (s.setParser p).cfgCh = s.cfgCh := rfl
@[simp] theorem setParser_cfgRate (p : Parser) : (s.setParser p).cfgRate = s.cfgRate := rfl
@[simp] theorem setParser_cfgN (p : Parser) : (s.setParser p).cfgN = s.cfgN := rfl
@[simp] theorem setParser_cfgT (p : Parser) : (s.setParser p).cfgT = s.cfgT := rfl
@[simp] theorem setParser_portOpen (p : Parser) : (s.setParser p).portOpen = s.portOpen := rfl
@[simp] theorem setParser_ns (p : Parser) : (s.setParser p).ns = s.ns := rfl
@[simp] theorem setParser_nr (p : Parser) : (s.setParser p).nr = s.nr := rfl
@[simp] theorem setParser_phase (p : Parser) : (s.setParser p).phase = s.phase := rfl
@[simp] theorem setParser_attempts (p : Parser) : (s.setParser p).attempts = s.attempts := rfl
@[simp] theorem setParser_discSeen (p : Parser) : (s.setParser p).discSeen = s.discSeen := rfl
@[simp] theorem setParser_txBuf (p : Parser) : (s.setParser p).txBuf = s.txBuf := rfl
@[simp] theorem setParser_txLen (p : Parser) : (s.setParser p).txLen = s.txLen := rfl
@[simp] theorem setParser_rxBuf (p : Parser) : (s.setParser p).rxBuf = s.rxBuf := rfl
@[simp] theorem setParser_pState (p : Parser) : (s.setParser p).pState = p.pState := rfl
@[simp] theorem setParser_pCtrl (p : Parser) : (s.setParser p).pCtrl = p.pCtrl := rfl
@[simp] theorem setParser_acc (p : Parser) : (s.setParser p).acc = p.acc := rfl
@[simp] theorem setParser_tmrArmed (p : Parser) : (s.setParser p).tmrArmed = s.tmrArmed := rfl
@[simp] theorem setParser_tmrRem (p : Parser) : (s.setParser p).tmrRem = s.tmrRem := rfl
@[simp] theorem setParser_par (p : Parser) : (s.setParser p).par = s.par := rfl
@[simp] theorem setParser_input (p : Parser) : (s.setParser p).input = s.input := rfl
@[simp] theorem setParser_openOk (p : Parser) : (s.setParser p).openOk = s.openOk := rfl
@[simp] theorem setParser_closeOk (p : Parser) : (s.setParser p).closeOk = s.closeOk := rfl
@[simp] theorem setParser_out (p : Parser) : (s.setParser p).out = s.out := rfl

@[simp] theorem parserReset_conn : (s.parserReset).conn = s.conn := rfl
@[simp] theorem parserReset_role : (s.parserReset).role = s.role := rfl
@[simp] theorem parserReset_cfgCh : (s.parserReset).cfgCh = s.cfgCh := rfl
@[simp] theorem parserReset_cfgRate : (s.parserReset).cfgRate = s.cfgRate := rfl
@[simp] theorem parserReset_cfgN : (s.parserReset).cfgN = s.cfgN := rfl
@[simp] theorem parserReset_cfgT : (s.parserReset).cfgT = s.cfgT := rfl
@[simp] theorem parserReset_portOpen : (s.parserReset).portOpen = s.portOpen := rfl
@[simp] theorem parserReset_ns : (s.parserReset).ns = s.ns := rfl
@[simp] theorem parserReset_nr : (s.parserReset).nr = s.nr := rfl
@[simp] theorem parserReset_phase : (s.parserReset).phase = s.phase := rfl
@[simp] theorem parserReset_attempts : (s.parserReset).attempts = s.attempts := rfl
@[simp] theorem parserReset_discSeen : (s.parserReset).discSeen = s.discSeen := rfl
@[simp] theorem parserReset_txBuf : (s.parserReset).txBuf = s.txBuf := rfl
@[simp] theorem parserReset_txLen : (s.parserReset).txLen = s.txLen := rfl
@[simp] theorem parserReset_rxBuf : (s.parserReset).rxBuf = s.rxBuf := rfl
@[simp] theorem parserReset_pState : (s.parserReset).pState = .idle := rfl
@[simp] theorem parserReset_pCtrl : (s.parserReset).pCtrl = s.pCtrl := rfl
@[simp] theorem parserReset_acc : (s.parserReset).acc = [] := rfl
@[simp] theorem parserReset_tmrArmed : (s.parserReset).tmrArmed = s.tmrArmed := rfl
@[simp] theorem parserReset_tmrRem : (s.parserReset).tmrRem = s.tmrRem := rfl
@[simp] theorem parserReset_par : (s.parserReset).par = s.par := rfl
@[simp] theorem parserReset_input : (s.parserReset).input = s.input := rfl
@[simp] theorem parserReset_openOk : (s.parserReset).openOk = s.openOk := rfl
@[simp] theorem parserReset_closeOk : (s.parserReset).closeOk = s.closeOk := rfl
@[simp] theorem parserReset_out : (s.parserReset).out = s.out := rfl

@[simp] theorem startOperation_conn : (s.startOperation).conn = s.conn := rfl
@[simp] theorem startOperation_role : (s.startOperation).role = s.role := rfl
@[simp] theorem startOperation_cfgCh : (s.startOperation).cfgCh = s.cfgCh := rfl
@[simp] theorem startOperation_cfgRate : (s.startOperation).cfgRate = s.cfgRate := rfl
@[simp] theorem startOperation_cfgN : (s.startOperation).cfgN = s.cfgN := rfl
@[simp] theorem startOperation_cfgT : (s.startOperation).cfgT = s.cfgT := rfl
@[simp] theorem startOperation_portOpen : (s.startOperation).portOpen = s.portOpen := rfl
@[simp] theorem startOperation_ns : (s.startOperation).ns = s.ns := rfl
@[simp] theorem startOperation_nr : (s.startOperation).nr = s.nr := rfl
@[simp] theorem startOperation_phase : (s.startOperation).phase = s.phase := rfl
@[simp] theorem startOperation_attempts : (s.startOperation).attempts = s.attempts := rfl
@[simp] theorem startOperation_discSeen : (s.startOperation).discSeen = s.discSeen := rfl
@[simp] theorem startOperation_txBuf : (s.startOperation).txBuf = s.txBuf := rfl
@[simp] theorem startOperation_txLen : (s.startOperation).txLen = s.txLen := rfl
@[simp] theorem startOperation_rxBuf : (s.startOperation).rxBuf = s.rxBuf := rfl
@[simp] theorem startOperation_pState : (s.startOperation).pState = .idle := rfl
@[simp] theorem startOperation_pCtrl : (s.startOperation).pCtrl = s.pCtrl := rfl
@[simp] theorem startOperation_acc : (s.startOperation).acc = [] := rfl
@[simp] theorem startOperation_tmrArmed : (s.startOperation).tmrArmed = false := rfl
@[simp] theorem startOperation_tmrRem : (s.startOperation).tmrRem = s.tmrRem := rfl
@[simp] theorem startOperation_par : (s.startOperation).par = s.par := rfl
@[simp] theorem startOperation_input : (s.startOperation).input = s.input := rfl
@[simp] theorem startOperation_openOk : (s.startOperation).openOk = s.openOk := rfl
@[simp] theorem startOperation_closeOk : (s.startOperation).closeOk = s.closeOk := rfl
@[simp] theorem startOperation_out : (s.startOperation).out = s.out := rfl

@[simp] theorem take_conn (i : Input) (rest : List Input) : (s.take i rest).conn = s.conn := rfl
@[simp] theorem take_role (i : Input) (rest : List Input) : (s.take i rest).role = s.role := rfl
@[simp] theorem take_cfgCh (i : Input) (rest : List Input) : (s.take i rest).cfgCh = s.cfgCh := rfl
@[simp] theorem take_cfgRate (i : Input) (rest : List Input) : (s.take i rest).cfgRate = s.cfgRate := rfl
@[simp] theorem take_cfgN (i : Input) (rest : List Input) : (s.take i rest).cfgN = s.cfgN := rfl
@[simp] theorem take_cfgT (i : Input) (rest : List Input) : (s.take i rest).cfgT = s.cfgT := rfl
@[simp] theorem take_portOpen (i : Input) (rest : List Input) : (s.take i rest).portOpen = s.portOpen := rfl
@[simp] theorem take_ns (i : Input) (rest : List Input) : (s.take i rest).ns = s.ns := rfl
@[simp] theorem take_nr (i : Input) (rest : List Input) : (s.take i rest).nr = s.nr := rfl
@[simp] theorem take_phase (i : Input) (rest : List Input) : (s.take i rest).phase = s.phase := rfl
@[simp] theorem take_attempts (i : Input) (rest : List Input) : (s.take i rest).attempts = s.attempts := rfl
@[simp] theorem take_discSeen (i : Input) (rest : List Input) : (s.take i rest).discSeen = s.discSeen := rfl
@[simp] theorem take_txBuf (i : Input) (rest : List Input) : (s.take i rest).txBuf = s.txBuf := rfl
@[simp] theorem take_txLen (i : Input) (rest : List Input) : (s.take i rest).txLen = s.txLen := rfl
@[simp] theorem take_rxBuf (i : Input) (rest : List Input) : (s.take i rest).rxBuf = s.rxBuf := rfl
@[simp] theorem take_pState (i : Input) (rest : List Input) : (s.take i rest).pState = s.pState := rfl
@[simp] theorem take_pCtrl (i : Input) (rest : List Input) : (s.take i rest).pCtrl = s.pCtrl := rfl
@[simp] theorem take_acc (i : Input) (rest : List Input) : (s.take i rest).acc = s.acc := rfl
@[simp] theorem take_tmrArmed (i : Input) (rest : List Input) : (s.take i rest).tmrArmed = s.tmrArmed := rfl
@[simp] theorem take_tmrRem (i : Input) (rest : List Input) : (s.take i rest).tmrRem = s.tmrRem := rfl
@[simp] theorem take_par (i : Input) (rest : List Input) : (s.take i rest).par = s.par := rfl
@[simp] theorem take_input (i : Input) (rest : List Input) : (s.take i rest).input = rest := rfl
@[simp] theorem take_openOk (i : Input) (rest : List Input) : (s.take i rest).openOk = i.openOk := rfl
@[simp] theorem take_closeOk (i : Input) (rest : List Input) : (s.take i rest).closeOk = i.closeOk := rfl
@[simp] theorem take_out (i : Input) (rest : List Input) : (s.take i rest).out = s.out := rfl

@[simp] theorem startAttempt_conn : (s.startAttempt).conn = s.conn := rfl
@[simp] theorem startAttempt_role : (s.startAttempt).role = s.role := rfl
@[simp] theorem startAttempt_cfgCh : (s.startAttempt).cfgCh = s.cfgCh := rfl
@[simp] theorem startAttempt_cfgRate : (s.startAttempt).cfgRate = s.cfgRate := rfl
@[simp] theorem startAttempt_cfgN : (s.startAttempt).cfgN = s.cfgN := rfl
@[simp] theorem startAttempt_cfgT : (s.startAttempt).cfgT = s.cfgT := rfl
@[simp] theorem startAttempt_portOpen : (s.startAttempt).portOpen = s.portOpen := rfl
@[simp] theorem startAttempt_ns : (s.startAttempt).ns = s.ns := rfl
@[simp] theorem startAttempt_nr : (s.startAttempt).nr = s.nr := rfl
@[simp] theorem startAttempt_phase : (s.startAttempt).phase = s.phase := rfl
@[simp] theorem startAttempt_attempts : (s.startAttempt).attempts = s.attempts + 1 := rfl
@[simp] theorem startAttempt_discSeen : (s.startAttempt).discSeen = s.discSeen := rfl
@[simp] theorem startAttempt_txBuf : (s.startAttempt).txBuf = s.txBuf := rfl
@[simp] theorem startAttempt_txLen : (s.startAttempt).txLen = s.txLen := rfl
@[simp] theorem startAttempt_rxBuf : (s.startAttempt).rxBuf = s.rxBuf := rfl
@[simp] theorem startAttempt_pState : (s.startAttempt).pState = s.pState := rfl
@[simp] theorem startAttempt_pCtrl : (s.startAttempt).pCtrl = s.pCtrl := rfl
@[simp] theorem startAttempt_acc : (s.startAttempt).acc = s.acc := rfl
@[simp] theorem startAttempt_tmrArmed : (s.startAttempt).tmrArmed = true := rfl
@[simp] theorem startAttempt_tmrRem : (s.startAttempt).tmrRem = s.cfgT := rfl
@[simp] theorem startAttempt_par : (s.startAttempt).par = s.par := rfl
@[simp] theorem startAttempt_input : (s.startAttempt).input = s.input := rfl
@[simp] theorem startAttempt_openOk : (s.startAttempt).openOk = s.openOk := rfl
@[simp] theorem startAttempt_closeOk : (s.startAttempt).closeOk = s.closeOk := rfl
@[simp] theorem startAttempt_out : (s.startAttempt).out = s.out ++ [.tx s.txBuf] := rfl

end Sys2Proof.Machine
end

