-- ==== Sys2Proof/Laws/Ops.lean ====
section
/-! SUPPORT. One lemma per shared operation that says once everything it writes, as one record update, so that a proof
cites it and does not unfold the operation. -/

namespace Sys2Proof.Machine

variable (s : State)

theorem peerClosing_eq : s.peerClosing =
    { s with discSeen := true, phase := .idle, out := s.out ++ [.resp (.ok 0)] } := rfl

theorem establishedInitiator_eq : s.establishedInitiator =
    { s with
      tmrArmed := false, conn := .connected, ns := false, nr := false, discSeen := false, attempts := 0, phase := .idle,
      out := s.out ++ [.resp (.ok 0)] } := rfl

theorem establishedResponder_eq : s.establishedResponder =
    { s with
      conn := .connected, ns := false, nr := false, discSeen := false, attempts := 0, phase := .idle,
      out := s.out ++ [.resp (.ok 0)] } := rfl

theorem openExhausted_eq : s.openExhausted =
    { s with
      tmrArmed := false, portOpen := false, phase := .idle,
      out := s.out ++ [.portClose, .resp (.err .noResponse)] } := by
  simp [State.openExhausted, State.fail, State.respond, State.emit, State.disarm]

theorem closeResult_err (e : Err) (ok : Bool) : closeResult (.err e) ok = .err e := by simp [closeResult]

theorem closeResult_ok (ok : Bool) : closeResult (.ok 0) ok = if ok then .ok 0 else .err .channelUnavailable := by
  cases ok <;> simp [closeResult]

theorem finishClose_eq (r : Result) : s.finishClose r =
    { s with
      tmrArmed := false, portOpen := false, conn := .closed, discSeen := false, phase := .idle,
      out := s.out ++ [.portClose, .resp (closeResult r s.closeOk)] } := by
  simp [State.finishClose, State.respond, State.emit, State.disarm]

theorem closeExhausted_eq : s.closeExhausted =
    { s with
      tmrArmed := false, portOpen := false, conn := .closed, discSeen := false, phase := .idle,
      out := s.out ++ [.portClose, .resp (.err .noResponse)] } := by
  simp [State.closeExhausted, finishClose_eq, closeResult_err]

theorem sendAcked_eq : s.sendAcked =
    { s with tmrArmed := false, ns := !s.ns, phase := .idle, out := s.out ++ [.resp (.ok s.txLen)] } := rfl

theorem sendExhausted_eq : s.sendExhausted =
    { s with tmrArmed := false, phase := .idle, out := s.out ++ [.resp (.err .transferFailed)] } := rfl

theorem startAttempt_eq : s.startAttempt =
    { s with
      attempts := s.attempts + 1, tmrArmed := true, tmrRem := s.cfgT, out := s.out ++ [.tx s.txBuf] } := rfl

theorem latchOpen_eq (r : Role) (ch rate n t : Nat) : s.latchOpen r ch rate n t =
    { s with
      role := r, cfgCh := ch, cfgRate := rate, cfgN := n, cfgT := t, attempts := 0, discSeen := false,
      tmrArmed := false, pState := .idle, acc := [] } := rfl

theorem parserReset_eq : s.parserReset = { s with pState := .idle, acc := [] } := rfl

theorem startOperation_eq : s.startOperation = { s with tmrArmed := false, pState := .idle, acc := [] } := rfl

theorem receiveAccepted_eq : s.receiveAccepted =
    { s with tmrArmed := false, pState := .idle, acc := [], phase := .recvWaitI } := rfl

theorem beginAttempts_zero (p : TimedPhase) (h : s.cfgN = 0) :
    s.beginAttempts p = State.exhausted { s with phase := p.phase } p := by simp [State.beginAttempts, h]

theorem beginAttempts_pos (p : TimedPhase) (h : 0 < s.cfgN) :
    s.beginAttempts p =
      { s with
        phase := p.phase, attempts := s.attempts + 1, tmrArmed := true, tmrRem := s.cfgT,
        out := s.out ++ [.tx s.txBuf] } := by
  rw [State.beginAttempts, if_neg (Nat.pos_iff_ne_zero.mp h), startAttempt_eq]

/-- The ways an operation that retransmits starts. -/
theorem beginAttempts_cases (p : TimedPhase) :
    (s.cfgN = 0 ∧ s.beginAttempts p = State.exhausted { s with phase := p.phase } p)
    ∨ (0 < s.cfgN ∧ s.beginAttempts p =
        { s with
          phase := p.phase, attempts := s.attempts + 1, tmrArmed := true, tmrRem := s.cfgT,
          out := s.out ++ [.tx s.txBuf] }) := by
  rcases Nat.eq_zero_or_pos s.cfgN with h | h
  · exact .inl ⟨h, beginAttempts_zero s p h⟩
  · exact .inr ⟨h, beginAttempts_pos s p h⟩

/-- What the spent budget leaves, by phase: CLOSE destroys the Connection, OPEN releases the port, SEND keeps both. -/
theorem exhausted_eq (p : TimedPhase) : s.exhausted p =
    match p with
    | .openI => { s with
        tmrArmed := false, portOpen := false, phase := .idle,
        out := s.out ++ [.portClose, .resp (.err .noResponse)] }
    | .send => { s with tmrArmed := false, phase := .idle, out := s.out ++ [.resp (.err .transferFailed)] }
    | .closeI => { s with
        tmrArmed := false, portOpen := false, conn := .closed, discSeen := false, phase := .idle,
        out := s.out ++ [.portClose, .resp (.err .noResponse)] }
    | .closeR => { s with
        tmrArmed := false, portOpen := false, conn := .closed, discSeen := false, phase := .idle,
        out := s.out ++ [.portClose, .resp (.err .noResponse)] } := by
  cases p
  · exact openExhausted_eq s
  · rfl
  · exact closeExhausted_eq s
  · exact closeExhausted_eq s

theorem sendRejected_eq : s.sendRejected =
    if s.attempts < s.cfgN then
      { s with attempts := s.attempts + 1, tmrArmed := true, tmrRem := s.cfgT, out := s.out ++ [.tx s.txBuf] }
    else { s with tmrArmed := false, phase := .idle, out := s.out ++ [.resp (.err .transferFailed)] } := rfl

theorem deliver_eq (d : Bytes) : s.deliver d =
    { s with
      rxBuf := d, nr := !s.nr, phase := .idle,
      out := s.out ++ [.tx (encodeC (addr s.par s.role) (cRR s.par (!s.nr))), .resp (.ok d.length)] } := by
  simp [State.deliver, State.respond, State.sendControl, State.emit, State.controlFrame, State.ownAddr, cRR]

theorem duplicate_eq : s.duplicate =
    { s with out := s.out ++ [.tx (encodeC (addr s.par s.role) (cRR s.par s.nr))] } := rfl

theorem reject_eq : s.reject =
    { s with out := s.out ++ [.tx (encodeC (addr s.par s.role) (cREJ s.par s.nr))] } := rfl

/-- What a timer that counts down leaves. -/
theorem tick_eq : s.tick =
    { s with tmrArmed := s.tmrArmed && !s.fires, tmrRem := if s.tmrArmed then s.tmrRem - 1 else s.tmrRem } := by
  cases s
  simp only [State.tick, State.fires]
  split
  · split
    · simp_all
    · simp_all
  · simp_all

theorem timed_of_phase (p : TimedPhase) : p.phase.timed? = some p := by cases p <;> rfl

theorem phase_of_timed {q : Phase} {p : TimedPhase} (h : q.timed? = some p) : q = p.phase := by
  cases q <;> cases p <;> simp_all [Phase.timed?, TimedPhase.phase]

end Sys2Proof.Machine
end

