-- ==== Sys2Proof/Laws/Exec.lean ====
section
/-! SUPPORT. Everything `exec` and a `TICK` can do, said once: every next state of an instruction is one record update of
`Effect`, with the conditions under which it comes about. A proof over all instructions cites `exec_effect`. -/

namespace Sys2Proof.Machine

/-- The effects of an instruction on `s`, one constructor each. -/
inductive Effect (s : State) : Instr → State → Prop where
  | openFailed (r : Role) (ch rate n t : Nat) (idle : s.phase = .idle) (closed : s.conn = .closed)
      (fits : n < 2 ^ s.par.wRetx ∧ t < 2 ^ s.par.wTimer) (port : s.openOk = false) :
      Effect s (.openCmd r ch rate n t) { s with
        role := r, cfgCh := ch, cfgRate := rate, cfgN := n, cfgT := t, attempts := 0, discSeen := false,
        tmrArmed := false, pState := .idle, acc := [], phase := .idle,
        out := s.out ++ [.portOpen ch rate, .resp (.err .channelUnavailable)] }
  | openWaits (ch rate n t : Nat) (idle : s.phase = .idle) (closed : s.conn = .closed)
      (fits : n < 2 ^ s.par.wRetx ∧ t < 2 ^ s.par.wTimer) (port : s.openOk = true) :
      Effect s (.openCmd .responder ch rate n t) { s with
        role := .responder, cfgCh := ch, cfgRate := rate, cfgN := n, cfgT := t, attempts := 0, discSeen := false,
        tmrArmed := false, pState := .idle, acc := [], portOpen := true, phase := .openRWaitSet,
        out := s.out ++ [.portOpen ch rate] }
  | openStarted (ch rate n t : Nat) (idle : s.phase = .idle) (closed : s.conn = .closed)
      (fits : n < 2 ^ s.par.wRetx ∧ t < 2 ^ s.par.wTimer) (port : s.openOk = true) (budget : 0 < n) :
      Effect s (.openCmd .initiator ch rate n t) { s with
        role := .initiator, cfgCh := ch, cfgRate := rate, cfgN := n, cfgT := t, attempts := 1, discSeen := false,
        tmrArmed := true, tmrRem := t, pState := .idle, acc := [], portOpen := true, phase := .openIWaitUa,
        txBuf := encodeC s.par.aI s.par.cSet,
        out := s.out ++ [.portOpen ch rate, .tx (encodeC s.par.aI s.par.cSet)] }
  | openExhausted (ch rate t : Nat) (idle : s.phase = .idle) (closed : s.conn = .closed)
      (fits : t < 2 ^ s.par.wTimer) (port : s.openOk = true) :
      Effect s (.openCmd .initiator ch rate 0 t) { s with
        role := .initiator, cfgCh := ch, cfgRate := rate, cfgN := 0, cfgT := t, attempts := 0, discSeen := false,
        tmrArmed := false, pState := .idle, acc := [], portOpen := false, phase := .idle,
        txBuf := encodeC s.par.aI s.par.cSet,
        out := s.out ++ [.portOpen ch rate, .portClose, .resp (.err .noResponse)] }
  | notConnected (i : Instr) (idle : s.phase = .idle) (closed : s.conn = .closed)
      (command : i = .receiveCmd ∨ i = .closeCmd ∨ ∃ p, i = .sendCmd p ∧ payloadInRange s.par p = true) :
      Effect s i { s with phase := .idle, out := s.out ++ [.resp (.err .notConnected)] }
  | sendStarted (p : Bytes) (idle : s.phase = .idle) (connected : s.conn = .connected)
      (length : payloadInRange s.par p = true) (budget : 0 < s.cfgN) :
      Effect s (.sendCmd p) { s with
        txLen := p.length, txBuf := encodeI s.par (addr s.par s.role) s.ns p, attempts := 1, pState := .idle, acc := [],
        phase := .sendWaitAck, tmrArmed := true, tmrRem := s.cfgT,
        out := s.out ++ [.tx (encodeI s.par (addr s.par s.role) s.ns p)] }
  | sendExhausted (p : Bytes) (idle : s.phase = .idle) (connected : s.conn = .connected)
      (length : payloadInRange s.par p = true) (budget : s.cfgN = 0) :
      Effect s (.sendCmd p) { s with
        txLen := p.length, txBuf := encodeI s.par (addr s.par s.role) s.ns p, attempts := 0, pState := .idle, acc := [],
        phase := .idle, tmrArmed := false, out := s.out ++ [.resp (.err .transferFailed)] }
  | receiveWaits (idle : s.phase = .idle) (connected : s.conn = .connected) :
      Effect s .receiveCmd { s with tmrArmed := false, pState := .idle, acc := [], phase := .recvWaitI }
  | closeStartedI (idle : s.phase = .idle) (connected : s.conn = .connected) (role : s.role = .initiator)
      (budget : 0 < s.cfgN) :
      Effect s .closeCmd { s with
        attempts := 1, pState := .idle, acc := [], phase := .closeIWaitDisc, tmrArmed := true, tmrRem := s.cfgT,
        txBuf := encodeC s.par.aI s.par.cDisc, out := s.out ++ [.tx (encodeC s.par.aI s.par.cDisc)] }
  | closeWaitsR (idle : s.phase = .idle) (connected : s.conn = .connected) (role : s.role = .responder)
      (seen : s.discSeen = false) :
      Effect s .closeCmd { s with
        attempts := 0, tmrArmed := false, pState := .idle, acc := [], phase := .closeRWaitDisc }
  | closeStartedR (idle : s.phase = .idle) (connected : s.conn = .connected) (role : s.role = .responder)
      (seen : s.discSeen = true) (budget : 0 < s.cfgN) :
      Effect s .closeCmd { s with
        attempts := 1, pState := .idle, acc := [], discSeen := false, phase := .closeRWaitUa, tmrArmed := true,
        tmrRem := s.cfgT, txBuf := encodeC s.par.aR s.par.cDisc, out := s.out ++ [.tx (encodeC s.par.aR s.par.cDisc)] }
  | closeExhausted (idle : s.phase = .idle) (connected : s.conn = .connected)
      (path : s.role = .initiator ∨ s.discSeen = true) (budget : s.cfgN = 0) :
      Effect s .closeCmd { s with
        attempts := 0, pState := .idle, acc := [], txBuf := encodeC (addr s.par s.role) s.par.cDisc, tmrArmed := false,
        portOpen := false, conn := .closed, discSeen := false, phase := .idle,
        out := s.out ++ [.portClose, .resp (.err .noResponse)] }
  | discarded (i : Instr) (frame : i.frameType? ≠ none) (busy : s.phase ≠ .idle) : Effect s i s
  | setAnswered (waits : s.phase = .openRWaitSet) :
      Effect s .set { s with
        conn := .connected, ns := false, nr := false, discSeen := false, attempts := 0, phase := .idle,
        out := s.out ++ [.tx (encodeC s.par.aR s.par.cUa), .resp (.ok 0)] }
  | uaConnects (waits : s.phase = .openIWaitUa) :
      Effect s .ua { s with
        tmrArmed := false, conn := .connected, ns := false, nr := false, discSeen := false, attempts := 0, phase := .idle,
        out := s.out ++ [.resp (.ok 0)] }
  | uaCloses (waits : s.phase = .closeRWaitUa) :
      Effect s .ua { s with
        tmrArmed := false, portOpen := false, conn := .closed, discSeen := false, phase := .idle,
        out := s.out ++ [.portClose, .resp (closeResult (.ok 0) s.closeOk)] }
  | discCloses (waits : s.phase = .closeIWaitDisc) :
      Effect s .disc { s with
        tmrArmed := false, portOpen := false, conn := .closed, discSeen := false, phase := .idle,
        out := s.out ++ [.tx (encodeC s.par.aI s.par.cUa), .portClose, .resp (closeResult (.ok 0) s.closeOk)] }
  | discStarts (waits : s.phase = .closeRWaitDisc) (budget : 0 < s.cfgN) :
      Effect s .disc { s with
        txBuf := encodeC s.par.aR s.par.cDisc, attempts := s.attempts + 1, phase := .closeRWaitUa, tmrArmed := true,
        tmrRem := s.cfgT, out := s.out ++ [.tx (encodeC s.par.aR s.par.cDisc)] }
  | discExhausted (waits : s.phase = .closeRWaitDisc) (budget : s.cfgN = 0) :
      Effect s .disc { s with
        txBuf := encodeC s.par.aR s.par.cDisc, tmrArmed := false, portOpen := false, conn := .closed, discSeen := false,
        phase := .idle, out := s.out ++ [.portClose, .resp (.err .noResponse)] }
  | discEndsReceive (waits : s.phase = .recvWaitI) :
      Effect s .disc { s with discSeen := true, phase := .idle, out := s.out ++ [.resp (.ok 0)] }
  | delivered (b : Bit) (d : Bytes) (waits : s.phase = .recvWaitI) (length : payloadInRange s.par d = true)
      (expected : b = s.nr) :
      Effect s (infoInstr b d (xorFold d)) { s with
        rxBuf := d, nr := !s.nr, phase := .idle,
        out := s.out ++ [.tx (encodeC (addr s.par s.role) (cRR s.par (!s.nr))), .resp (.ok d.length)] }
  | duplicate (b : Bit) (d : Bytes) (waits : s.phase = .recvWaitI) (length : payloadInRange s.par d = true)
      (old : b ≠ s.nr) :
      Effect s (infoInstr b d (xorFold d)) { s with
        out := s.out ++ [.tx (encodeC (addr s.par s.role) (cRR s.par s.nr))] }
  | damaged (b : Bit) (d : Bytes) (x : Byte) (waits : s.phase = .recvWaitI) (length : payloadInRange s.par d = true)
      (check : xorFold d ≠ x) :
      Effect s (infoInstr b d x) { s with
        out := s.out ++ [.tx (encodeC (addr s.par s.role) (cREJ s.par s.nr))] }
  | acknowledged (i : Instr) (waits : s.phase = .sendWaitAck)
      (bit : (i = .rr0 ∧ s.ns = true) ∨ (i = .rr1 ∧ s.ns = false)) :
      Effect s i { s with tmrArmed := false, ns := !s.ns, phase := .idle, out := s.out ++ [.resp (.ok s.txLen)] }
  | rejectedAgain (i : Instr) (waits : s.phase = .sendWaitAck)
      (bit : (i = .rej0 ∧ s.ns = false) ∨ (i = .rej1 ∧ s.ns = true)) (budget : s.attempts < s.cfgN) :
      Effect s i { s with
        attempts := s.attempts + 1, tmrArmed := true, tmrRem := s.cfgT, out := s.out ++ [.tx s.txBuf] }
  | rejectedSpent (i : Instr) (waits : s.phase = .sendWaitAck)
      (bit : (i = .rej0 ∧ s.ns = false) ∨ (i = .rej1 ∧ s.ns = true)) (budget : s.cfgN ≤ s.attempts) :
      Effect s i { s with tmrArmed := false, phase := .idle, out := s.out ++ [.resp (.err .transferFailed)] }

variable {s u : State}

theorem openOperandsOk_iff {n t : Nat} :
    openOperandsOk s n t = true ↔ n < 2 ^ s.par.wRetx ∧ t < 2 ^ s.par.wTimer := by
  simp [openOperandsOk, retxInRange, timeoutInRange]

theorem execOpen_effect {r : Role} {ch rate n t : Nat} (h : execOpen r ch rate n t s = .next u) :
    Effect s (.openCmd r ch rate n t) u := by
  unfold execOpen at h
  split at h
  · cases h
  rename_i hp
  split at h
  · cases h
  rename_i hc
  split at h
  case isFalse => cases h
  rename_i hf
  simp only [ne_eq, Decidable.not_not] at hp
  have hc : s.conn = .closed := by cases hs : s.conn <;> simp_all
  have hf := openOperandsOk_iff.mp hf
  cases hport : s.openOk with
  | false =>
    simp only [latchOpen_eq, State.openPort, State.emit, State.fail, State.respond, hport] at h
    cases h
    simpa [hport] using Effect.openFailed r ch rate n t hp hc hf hport
  | true =>
    cases r with
    | responder =>
      simp only [latchOpen_eq, State.openPort, State.emit, hport, if_true] at h
      cases h
      simpa [hport] using Effect.openWaits ch rate n t hp hc hf hport
    | initiator =>
      rcases Nat.eq_zero_or_pos n with rfl | hn
      · simp only [latchOpen_eq, State.openPort, State.emit, State.openInitiator, hport, beginAttempts_zero, exhausted_eq]
          at h
        cases h
        simpa [hport] using Effect.openExhausted ch rate t hp hc hf.2 hport
      · simp only [latchOpen_eq, State.openPort, State.emit, State.openInitiator, hport, beginAttempts_pos, hn] at h
        cases h
        simpa [TimedPhase.phase, hport] using Effect.openStarted ch rate n t hp hc hf hport hn

theorem respondNotConnected_eq : s.respond (.err .notConnected) =
    { s with phase := .idle, out := s.out ++ [.resp (.err .notConnected)] } := rfl

theorem execSend_effect {p : Bytes} (h : execSend p s = .next u) : Effect s (.sendCmd p) u := by
  unfold execSend at h
  split at h
  · cases h
  rename_i hp
  split at h
  case isFalse => cases h
  rename_i hl
  simp only [ne_eq, Decidable.not_not] at hp
  split at h
  · rename_i hc
    cases h
    exact .notConnected _ hp hc (.inr (.inr ⟨p, rfl, hl⟩))
  · rename_i hc
    have hc : s.conn = .connected := by cases hs : s.conn <;> simp_all
    cases h
    rcases Nat.eq_zero_or_pos s.cfgN with hn | hn
    · have := Effect.sendExhausted p hp hc hl hn
      simpa [State.sendAccepted, startOperation_eq, beginAttempts_zero, hn, exhausted_eq, State.infoFrame, State.ownAddr]
        using this
    · have := Effect.sendStarted p hp hc hl hn
      simpa [State.sendAccepted, startOperation_eq, beginAttempts_pos, hn, State.infoFrame, State.ownAddr,
        TimedPhase.phase] using this

theorem execReceive_effect (h : execReceive s = .next u) : Effect s .receiveCmd u := by
  unfold execReceive at h
  split at h
  · cases h
  rename_i hp
  simp only [ne_eq, Decidable.not_not] at hp
  split at h
  · rename_i hc
    cases h
    exact .notConnected _ hp hc (.inl rfl)
  · rename_i hc
    have hc : s.conn = .connected := by cases hs : s.conn <;> simp_all
    cases h
    exact .receiveWaits hp hc

theorem execClose_effect (h : execClose s = .next u) : Effect s .closeCmd u := by
  unfold execClose at h
  split at h
  · cases h
  rename_i hp
  simp only [ne_eq, Decidable.not_not] at hp
  split at h
  · rename_i hc
    cases h
    exact .notConnected _ hp hc (.inr (.inl rfl))
  · rename_i hc
    have hc : s.conn = .connected := by cases hs : s.conn <;> simp_all
    cases h
    cases hr : s.role with
    | initiator =>
      rcases Nat.eq_zero_or_pos s.cfgN with hn | hn
      · have := Effect.closeExhausted hp hc (.inl hr) hn
        simpa [State.closeAccepted, hr, State.closeInitiator, startOperation_eq, beginAttempts_zero, hn, exhausted_eq, addr]
          using this
      · have := Effect.closeStartedI hp hc hr hn
        simpa [State.closeAccepted, hr, State.closeInitiator, startOperation_eq, beginAttempts_pos, hn, TimedPhase.phase]
          using this
    | responder =>
      cases hd : s.discSeen with
      | false =>
        have := Effect.closeWaitsR hp hc hr hd
        simpa [State.closeAccepted, hr, State.closeResponder, startOperation_eq, hd] using this
      | true =>
        rcases Nat.eq_zero_or_pos s.cfgN with hn | hn
        · have := Effect.closeExhausted hp hc (.inr hd) hn
          simpa [State.closeAccepted, hr, State.closeResponder, startOperation_eq, hd, State.responderDisc,
            beginAttempts_zero, hn, exhausted_eq, addr] using this
        · have := Effect.closeStartedR hp hc hr hd hn
          simpa [State.closeAccepted, hr, State.closeResponder, startOperation_eq, hd, State.responderDisc,
            beginAttempts_pos, hn, TimedPhase.phase] using this

theorem execSet_effect (h : execSet s = .next u) : Effect s .set u := by
  cases hp : s.phase <;> simp only [execSet, hp, reduceCtorEq] at h <;> cases h
  case openRWaitSet => simpa [establishedResponder_eq, State.emit] using Effect.setAnswered hp
  all_goals exact .discarded _ (by simp [Instr.frameType?]) (by simp [hp])

theorem execUa_effect (h : execUa s = .next u) : Effect s .ua u := by
  cases hp : s.phase <;> simp only [execUa, hp, reduceCtorEq] at h <;> cases h
  case openIWaitUa => exact .uaConnects hp
  case closeRWaitUa => simpa [finishClose_eq, State.disarm] using Effect.uaCloses hp
  all_goals exact .discarded _ (by simp [Instr.frameType?]) (by simp [hp])

theorem execDisc_effect (h : execDisc s = .next u) : Effect s .disc u := by
  cases hp : s.phase <;> simp only [execDisc, hp, reduceCtorEq] at h <;> cases h
  case closeIWaitDisc => simpa [finishClose_eq, State.disarm, State.emit] using Effect.discCloses hp
  case closeRWaitDisc =>
    rcases Nat.eq_zero_or_pos s.cfgN with hn | hn
    · simpa [State.responderDisc, beginAttempts_zero, hn, exhausted_eq] using Effect.discExhausted hp hn
    · simpa [State.responderDisc, beginAttempts_pos, hn, TimedPhase.phase] using Effect.discStarts hp hn
  case recvWaitI => exact .discEndsReceive hp
  all_goals exact .discarded _ (by simp [Instr.frameType?]) (by simp [hp])

theorem infoInstr_frame (b : Bit) (d : Bytes) (x : Byte) : (infoInstr b d x).frameType? ≠ none := by
  cases b <;> simp [infoInstr, Instr.frameType?]

theorem informationFrame_effect {b : Bit} {d : Bytes} {x : Byte} (h : informationFrame b d x s = .next u) :
    Effect s (infoInstr b d x) u := by
  cases hp : s.phase <;> simp only [informationFrame, hp, reduceCtorEq] at h <;> cases h
  case recvWaitI =>
    unfold State.receiveInfo
    split
    · rename_i hl
      split
      · rename_i hx
        subst hx
        split
        · rename_i hb
          rw [deliver_eq]
          exact .delivered b d hp hl hb
        · rename_i hb
          exact .duplicate b d hp hl hb
      · rename_i hx
        exact .damaged b d x hp hl hx
    · exact .discarded _ (infoInstr_frame b d x) (by simp [hp])
  all_goals exact .discarded _ (infoInstr_frame b d x) (by simp [hp])

theorem execRr0_effect (h : execRr0 s = .next u) : Effect s .rr0 u := by
  cases hp : s.phase <;> simp only [execRr0, acknowledgement, hp, reduceCtorEq] at h <;> cases h
  case sendWaitAck =>
    unfold State.onRr
    split
    · rename_i hb
      exact .acknowledged _ hp (.inl ⟨rfl, by simpa using hb⟩)
    · exact .discarded _ (by simp [Instr.frameType?]) (by simp [hp])
  all_goals exact .discarded _ (by simp [Instr.frameType?]) (by simp [hp])

theorem execRr1_effect (h : execRr1 s = .next u) : Effect s .rr1 u := by
  cases hp : s.phase <;> simp only [execRr1, acknowledgement, hp, reduceCtorEq] at h <;> cases h
  case sendWaitAck =>
    unfold State.onRr
    split
    · rename_i hb
      exact .acknowledged _ hp (.inr ⟨rfl, by simpa using hb⟩)
    · exact .discarded _ (by simp [Instr.frameType?]) (by simp [hp])
  all_goals exact .discarded _ (by simp [Instr.frameType?]) (by simp [hp])

theorem onRej_effect {b : Bit} {i : Instr} (hp : s.phase = .sendWaitAck) (hi : i.frameType? ≠ none)
    (bit : b = s.ns → (i = .rej0 ∧ s.ns = false) ∨ (i = .rej1 ∧ s.ns = true)) : Effect s i (s.onRej b) := by
  unfold State.onRej
  split
  · rename_i hb
    rw [sendRejected_eq]
    split
    · rename_i hn
      exact .rejectedAgain i hp (bit hb) hn
    · rename_i hn
      exact .rejectedSpent i hp (bit hb) (by omega)
  · exact .discarded _ hi (by simp [hp])

theorem execRej0_effect (h : execRej0 s = .next u) : Effect s .rej0 u := by
  cases hp : s.phase <;> simp only [execRej0, acknowledgement, hp, reduceCtorEq] at h <;> cases h
  case sendWaitAck => exact onRej_effect hp (by simp [Instr.frameType?]) fun hb => .inl ⟨rfl, hb.symm⟩
  all_goals exact .discarded _ (by simp [Instr.frameType?]) (by simp [hp])

theorem execRej1_effect (h : execRej1 s = .next u) : Effect s .rej1 u := by
  cases hp : s.phase <;> simp only [execRej1, acknowledgement, hp, reduceCtorEq] at h <;> cases h
  case sendWaitAck => exact onRej_effect hp (by simp [Instr.frameType?]) fun hb => .inr ⟨rfl, hb.symm⟩
  all_goals exact .discarded _ (by simp [Instr.frameType?]) (by simp [hp])

/-- Every next state of an instruction is one of its effects. -/
theorem exec_effect {i : Instr} (h : exec i s = .next u) : Effect s i u := by
  cases i with
  | set => exact execSet_effect h
  | ua => exact execUa_effect h
  | disc => exact execDisc_effect h
  | i0 d x => exact informationFrame_effect (b := false) h
  | i1 d x => exact informationFrame_effect (b := true) h
  | rr0 => exact execRr0_effect h
  | rr1 => exact execRr1_effect h
  | rej0 => exact execRej0_effect h
  | rej1 => exact execRej1_effect h
  | openCmd r ch rate n t => exact execOpen_effect h
  | sendCmd p => exact execSend_effect h
  | receiveCmd => exact execReceive_effect h
  | closeCmd => exact execClose_effect h

/-- The effects of a `TICK`, one constructor each. -/
inductive TickEffect (s : State) : State → Prop where
  | nothing : TickEffect s s
  | counts (armed : s.tmrArmed = true) (left : 1 < s.tmrRem) : TickEffect s { s with tmrRem := s.tmrRem - 1 }
  | ranOut (idle : s.phase = .idle) (armed : s.tmrArmed = true) (last : s.tmrRem ≤ 1) :
      TickEffect s { s with tmrArmed := false, tmrRem := 0 }
  | retransmitted (p : TimedPhase) (waits : s.phase = p.phase) (budget : s.attempts < s.cfgN) :
      TickEffect s { s with
        attempts := s.attempts + 1, tmrArmed := true, tmrRem := s.cfgT, out := s.out ++ [.tx s.txBuf] }
  | openExhausted (waits : s.phase = .openIWaitUa) :
      TickEffect s { s with
        tmrArmed := false, tmrRem := 0, portOpen := false, phase := .idle,
        out := s.out ++ [.portClose, .resp (.err .noResponse)] }
  | sendExhausted (waits : s.phase = .sendWaitAck) :
      TickEffect s { s with
        tmrArmed := false, tmrRem := 0, phase := .idle, out := s.out ++ [.resp (.err .transferFailed)] }
  | closeExhausted (waits : s.phase = .closeIWaitDisc ∨ s.phase = .closeRWaitUa) :
      TickEffect s { s with
        tmrArmed := false, tmrRem := 0, portOpen := false, conn := .closed, discSeen := false, phase := .idle,
        out := s.out ++ [.portClose, .resp (.err .noResponse)] }

theorem tick_disarmed (h : s.tmrArmed = false) : s.tick = s := by simp [State.tick, h]

theorem tick_counts (h : s.tmrArmed = true) (hr : 1 < s.tmrRem) : s.tick = { s with tmrRem := s.tmrRem - 1 } := by
  simp [State.tick, h, not_le.mpr hr]

theorem tick_last (h : s.tmrArmed = true) (hr : s.tmrRem ≤ 1) : s.tick = { s with tmrArmed := false, tmrRem := 0 } := by
  simp [State.tick, h, hr]

/-- What a `TICK` writes is one of its effects. -/
theorem onTick_effect (s : State) : TickEffect s s.onTick := by
  unfold State.onTick
  cases ht : s.phase.timed? with
  | none =>
    by_cases hp : s.phase = .idle
    · rw [if_pos hp]
      cases ha : s.tmrArmed with
      | false => rw [tick_disarmed ha]; exact .nothing
      | true =>
        rcases Nat.lt_or_ge 1 s.tmrRem with hr | hr
        · rw [tick_counts ha hr]; exact .counts ha hr
        · rw [tick_last ha hr]; exact .ranOut hp ha hr
    · rw [if_neg hp]; exact .nothing
  | some p =>
    have hp := phase_of_timed ht
    cases ha : s.tmrArmed with
    | false => simpa [State.fires, ha, tick_disarmed ha] using TickEffect.nothing
    | true =>
      rcases Nat.lt_or_ge 1 s.tmrRem with hr | hr
      · simpa [State.fires, ha, not_le.mpr hr, tick_counts ha hr] using TickEffect.counts ha hr
      · rw [tick_last ha hr]
        by_cases hn : s.attempts < s.cfgN
        · simpa [State.fires, ha, hr, State.onTimeout, hn, startAttempt_eq] using TickEffect.retransmitted p hp hn
        · cases p
          · simpa [State.fires, ha, hr, State.onTimeout, hn, exhausted_eq] using TickEffect.openExhausted hp
          · simpa [State.fires, ha, hr, State.onTimeout, hn, exhausted_eq] using TickEffect.sendExhausted hp
          · simpa [State.fires, ha, hr, State.onTimeout, hn, exhausted_eq] using TickEffect.closeExhausted (.inl hp)
          · simpa [State.fires, ha, hr, State.onTimeout, hn, exhausted_eq] using TickEffect.closeExhausted (.inr hp)

end Sys2Proof.Machine
end

