-- ==== Sys2Proof/Laws/Step.lean ====
section
/-! SUPPORT. What the step does with the pending input, said once. -/

namespace Sys2Proof.Machine

variable {s t : State}

theorem step_badParameters (h : paramsOk s.par = false) : step s = .refused .badParameters := by
  simp [step, takeInput, h]

theorem step_nil (h : paramsOk s.par = true) (hi : s.input = []) : step s = .next s := by
  simp [step, takeInput, h, hi]

theorem step_cons {i : Input} {rest : List Input} (h : paramsOk s.par = true) (hi : s.input = i :: rest) :
    step s = onEvent i.event (s.take i rest) := by
  simp [step, takeInput, h, hi]

/-- What a step that answers a next state has done: nothing, or taken the oldest pending input. -/
theorem step_next_cases (h : step s = .next t) :
    paramsOk s.par = true ∧ ((s.input = [] ∧ t = s)
      ∨ ∃ i rest, s.input = i :: rest ∧ onEvent i.event (s.take i rest) = .next t) := by
  cases hp : paramsOk s.par with
  | false => simp [step_badParameters hp] at h
  | true =>
    refine ⟨rfl, ?_⟩
    cases hi : s.input with
    | nil => rw [step_nil hp hi] at h; exact .inl ⟨rfl, by cases h; rfl⟩
    | cons i rest => exact .inr ⟨i, rest, rfl, by rw [← step_cons hp hi]; exact h⟩

/-- What a command event that answers a next state has done. -/
theorem onCommand_next {b : Byte} {o : Operands} (h : onCommand b o s = .next t) :
    s.phase = .idle ∧ ∃ i, decodeCommand b o = .ok i ∧ exec i s = .next t := by
  unfold onCommand at h
  split at h
  · cases h
  · rename_i hp
    refine ⟨by simpa using hp, ?_⟩
    split at h
    · exact ⟨_, by assumption, h⟩
    · cases h

/-- What a byte event that answers a next state has done: one parser step, and the frame it completes, if any. -/
theorem onByte_next {b : Byte} (h : onByte b s = .next t) :
    s.phase ≠ .idle ∧
      ((∃ i, (s.parseByte b).2.instr s.par = some i ∧ exec i (s.setParser (s.parseByte b).1) = .next t)
        ∨ ((s.parseByte b).2.instr s.par = none ∧ t = s.setParser (s.parseByte b).1)) := by
  unfold onByte at h
  split at h
  · cases h
  · rename_i hp
    refine ⟨hp, ?_⟩
    split at h
    · rename_i i hi
      exact .inl ⟨i, hi, h⟩
    · rename_i hi
      exact .inr ⟨hi, by cases h; rfl⟩

theorem onNoByte_next (h : onNoByte s = .next t) : s.phase ≠ .idle ∧ t = s := by
  unfold onNoByte at h
  split at h
  · cases h
  · rename_i hp
    exact ⟨hp, by cases h; rfl⟩

/-- What a step that answers a next state has done: nothing; or it has taken the oldest pending input, and from the state
`u` with that input removed its command or the frame that its byte completes has had one of its effects, or its byte has
completed none, or it was a `NOBYTE`, or a `TICK` has had one of its effects. -/
theorem step_effect (h : step s = .next t) :
    paramsOk s.par = true ∧ ((s.input = [] ∧ t = s)
      ∨ ∃ i rest u, s.input = i :: rest ∧ u = s.take i rest ∧
        ((∃ b o c, i.event = .cmd b o ∧ u.phase = .idle ∧ decodeCommand b o = .ok c ∧ Effect u c t)
          ∨ (∃ b c, i.event = .byte b ∧ u.phase ≠ .idle ∧ (u.parseByte b).2.instr u.par = some c ∧
              Effect (u.setParser (u.parseByte b).1) c t)
          ∨ (∃ b, i.event = .byte b ∧ u.phase ≠ .idle ∧ t = u.setParser (u.parseByte b).1)
          ∨ (i.event = .noByte ∧ u.phase ≠ .idle ∧ t = u)
          ∨ (i.event = .tick ∧ TickEffect u t))) := by
  obtain ⟨hp, h | ⟨i, rest, hi, h⟩⟩ := step_next_cases h
  · exact ⟨hp, .inl h⟩
  refine ⟨hp, .inr ⟨i, rest, _, hi, rfl, ?_⟩⟩
  cases he : i.event with
  | cmd b o =>
    rw [he] at h
    obtain ⟨h1, c, h2, h3⟩ := onCommand_next h
    exact .inl ⟨b, o, c, rfl, h1, h2, exec_effect h3⟩
  | byte b =>
    rw [he] at h
    obtain ⟨h1, ⟨c, h2, h3⟩ | ⟨-, h3⟩⟩ := onByte_next h
    · exact .inr (.inl ⟨b, c, rfl, h1, h2, exec_effect h3⟩)
    · exact .inr (.inr (.inl ⟨b, rfl, h1, h3⟩))
  | noByte =>
    rw [he] at h
    obtain ⟨h1, h2⟩ := onNoByte_next h
    exact .inr (.inr (.inr (.inl ⟨rfl, h1, h2⟩)))
  | tick =>
    rw [he] at h
    simp only [onEvent, Host.Outcome.next.injEq] at h
    exact .inr (.inr (.inr (.inr ⟨rfl, h ▸ onTick_effect _⟩)))

end Sys2Proof.Machine
end

