-- ==== Sys2Proof/Laws/Runs.lean ====
section
/-! SUPPORT. Runs over the bytes of one frame: the frame's meaning runs at its last byte, and the bytes before it write
only the parser. -/

namespace Sys2Proof.Machine

theorem run_succ {s t : State} (n : Nat) (h : step s = .next t) : core.run (n + 1) s = core.run n t := by
  have h' : core.step s = .next t := h
  simp [Host.Core.run, h']

/-- A byte in an operation: one parser step, and the frame it completes, if any. -/
theorem step_fed {s : State} (b : Byte) (bs : Bytes) (o k : Bool) (hp : paramsOk s.par = true) (hph : s.phase ≠ .idle) :
    step (s.fed (b :: bs) o k) =
      match (s.parser.parse s.par s.peerAddr b).2.instr s.par with
      | some i =>
        exec i (State.setParser { s.fed bs o k with openOk := o, closeOk := k } (s.parser.parse s.par s.peerAddr b).1)
      | none =>
        .next (State.setParser { s.fed bs o k with openOk := o, closeOk := k } (s.parser.parse s.par s.peerAddr b).1) := by
  rw [step_cons (s := s.fed (b :: bs) o k) (i := { event := .byte b, openOk := o, closeOk := k }) hp rfl]
  exact if_neg hph

/-- Bytes over which the parser returns one event, at the last byte, run the frame of that event. -/
theorem run_feed (b : Byte) (o k : Bool) (bs : Bytes) {s u : State} {q : Parser} {e : ParserEvent} {i : Instr}
    (hp : paramsOk s.par = true) (hph : s.phase ≠ .idle)
    (hf : s.parser.feed s.par s.peerAddr (bs ++ [b]) = (q, List.replicate bs.length .none ++ [e]))
    (hi : e.instr s.par = some i)
    (hu : exec i (State.setParser { s with input := [], openOk := o, closeOk := k } q) = .next u) :
    core.run (bs.length + 1) (s.fed (bs ++ [b]) o k) = .next u := by
  induction bs generalizing s with
  | nil =>
    simp only [List.nil_append, feed_cons, feed_nil, List.length_nil, List.replicate_zero, Prod.mk.injEq,
      List.cons.injEq, and_true] at hf
    obtain ⟨rfl, rfl⟩ := hf
    refine run_succ 0 ?_
    rw [List.nil_append, step_fed b [] o k hp hph, hi]
    exact hu
  | cons x xs ih =>
    simp only [List.cons_append, feed_cons, List.length_cons, List.replicate_succ, Prod.mk.injEq, List.cons.injEq] at hf
    obtain ⟨h1, h2, h3⟩ := hf
    have hs := step_fed x (xs ++ [b]) o k hp hph
    rw [h2] at hs
    rw [List.length_cons, List.cons_append, run_succ _ hs]
    exact ih (s := State.setParser { s with openOk := o, closeOk := k } (s.parser.parse s.par s.peerAddr x).1)
      hp hph (Prod.ext h1 h3) hi hu

/-- The bytes of an Information frame of the peer run that frame. -/
theorem run_infoFrame {s u : State} (b : Bit) (d : Bytes) (o k : Bool) (hp : paramsOk s.par = true)
    (hph : s.phase ≠ .idle) (hd : payloadInRange s.par d = true) (hq : s.pState = .idle ∨ s.pState = .gotFlag)
    (hu : exec (infoInstr b d (bcc2 d))
      { s with input := [], openOk := o, closeOk := k, pState := .idle, pCtrl := cI s.par b, acc := [] } = .next u) :
    core.run (encodeI s.par s.peerAddr b d).length (s.fed (encodeI s.par s.peerAddr b d) o k) = .next u := by
  have h := feed_infoFrame hp (peer s.role) (q := s.parser) hq b d (bcc2 d) hd
  obtain ⟨bs, e, el⟩ : ∃ bs : Bytes, encodeI s.par s.peerAddr b d = bs ++ [FLAG]
      ∧ bs.length = 4 + (stuff (d ++ [bcc2 d])).length :=
    ⟨[FLAG, s.peerAddr, cI s.par b, s.peerAddr ^^^ cI s.par b] ++ stuff (d ++ [bcc2 d]), rfl, by simp; omega⟩
  have e' : infoFrame (addr s.par (peer s.role)) (cI s.par b) d (bcc2 d) = bs ++ [FLAG] := e
  rw [e', ← el] at h
  rw [e, List.length_append, List.length_singleton]
  refine run_feed FLAG o k bs (e := .info b d) hp hph (q := { pState := .idle, pCtrl := cI s.par b, acc := [] }) ?_ rfl hu
  rw [State.peerAddr, h]
  simp [bcc2]

/-- The bytes of a control frame of the peer run that frame. -/
theorem run_controlFrame {s u : State} {f : FrameType} {i : Instr} (o k : Bool) (hp : paramsOk s.par = true)
    (hph : s.phase ≠ .idle) (hf : controlInstr f = some i) (hq : s.pState = .idle ∨ s.pState = .gotFlag)
    (hu : exec i
      { s with input := [], openOk := o, closeOk := k, pState := .idle, pCtrl := Sys2Proof.control s.par f } = .next u) :
    core.run 5 (s.fed (encodeC s.peerAddr (Sys2Proof.control s.par f)) o k) = .next u := by
  have h := feed_controlFrame hp (peer s.role) (q := s.parser) hq f (by rw [hf]; rfl)
  refine run_feed FLAG o k [FLAG, s.peerAddr, Sys2Proof.control s.par f, s.peerAddr ^^^ Sys2Proof.control s.par f]
    hp hph h ?_ hu
  simp [ParserEvent.instr, frameTypeOf_control hp f, hf]

end Sys2Proof.Machine
end

