-- ==== Sys2Proof/Tests/Slice0.lean ====
section
/-! SUPPORT. The model's own tests. Every expected value is written out from spec/: the vectors of 95_test_vectors.md
(V-…), or the rule named. The witnesses at the end show that the hypotheses of each statement can be met together. -/

namespace Sys2Proof.Machine

/-! ### Well-formedness: an ill-formed term for each check (30_encoding.md R92, R110) -/

/-- The defaults with `MAX_PAYLOAD = 2`, as in V-CODEC-12. -/
def smallPar : Config := { Config.default with maxPayload := 2 }

theorem test_wf_rejects_empty_i0 : Instr.wf .default (.i0 [] 0x00#8) = false := by decide

theorem test_wf_rejects_long_i1 : Instr.wf smallPar (.i1 [0x01#8, 0x02#8, 0x03#8] 0x00#8) = false := by decide

theorem test_wf_rejects_empty_send : Instr.wf .default (.sendCmd []) = false := by decide

theorem test_wf_rejects_long_send : Instr.wf smallPar (.sendCmd [0x01#8, 0x02#8, 0x03#8]) = false := by decide

theorem test_wf_rejects_wide_retransmissions : Instr.wf .default (.openCmd .initiator 0 0 256 0) = false := by decide

theorem test_wf_rejects_wide_timeout : Instr.wf .default (.openCmd .initiator 0 0 0 4294967296) = false := by decide

theorem test_wf_accepts_the_widest :
    Instr.wf .default (.openCmd .responder 0 0 255 4294967295) = true
      ∧ Instr.wf smallPar (.sendCmd [0x01#8, 0x02#8]) = true := by
  decide

/-! ### Parameters (00_scope.md R9; the counter-examples of 95_test_vectors.md 2.1) -/

theorem test_default_parameters_pass : paramsOk .default = true := by decide

theorem test_bad_parameters_fail :
    paramsOk { Config.default with cUa := 0x7D#8 } = false
    ∧ paramsOk { Config.default with aR := 0x03#8 } = false
    ∧ paramsOk { Config.default with cRr0 := 0x7C#8, aI := 0x02#8 } = false
    ∧ paramsOk { Config.default with cRr1 := 0xAA#8 } = false := by decide

/-! ### Decoding: words written out from the encodings (V-CODEC-1 to V-CODEC-12, 95_test_vectors.md 2.4) -/

/-- What the decoder reads, none where it refuses. -/
def reads (r : Role) (code : Code) : Option Instr :=
  match decode .default r code with
  | .ok i => some i
  | .error _ => none

/-- Why the decoder refuses. -/
def refuses (c : Config) (r : Role) (code : Code) : Option DecodeError :=
  match decode c r code with
  | .ok _ => none
  | .error e => some e

theorem test_decode_set : reads .initiator (.frame [0x7E#8, 0x03#8, 0x03#8, 0x00#8, 0x7E#8]) = some .set := by decide

theorem test_decode_ua : reads .responder (.frame [0x7E#8, 0x01#8, 0x07#8, 0x06#8, 0x7E#8]) = some .ua := by decide

theorem test_decode_disc : reads .initiator (.frame [0x7E#8, 0x03#8, 0x0B#8, 0x08#8, 0x7E#8]) = some .disc := by decide

theorem test_decode_rr0 : reads .responder (.frame [0x7E#8, 0x01#8, 0xAA#8, 0xAB#8, 0x7E#8]) = some .rr0 := by decide

theorem test_decode_rr1 : reads .responder (.frame [0x7E#8, 0x01#8, 0xAB#8, 0xAA#8, 0x7E#8]) = some .rr1 := by decide

theorem test_decode_rej0 : reads .initiator (.frame [0x7E#8, 0x03#8, 0x54#8, 0x57#8, 0x7E#8]) = some .rej0 := by decide

theorem test_decode_rej1 : reads .initiator (.frame [0x7E#8, 0x03#8, 0x55#8, 0x56#8, 0x7E#8]) = some .rej1 := by decide

/-- V-CODEC-1: "HELLO" with its BCC2 `0x42`. -/
theorem test_decode_i0 :
    reads .initiator (.frame [0x7E#8, 0x03#8, 0x00#8, 0x03#8, 0x48#8, 0x45#8, 0x4C#8, 0x4C#8, 0x4F#8, 0x42#8, 0x7E#8])
      = some (.i0 [0x48#8, 0x45#8, 0x4C#8, 0x4C#8, 0x4F#8] 0x42#8) := by decide

/-- V-CODEC-3: stuffed FLAG and ESC in the payload. -/
theorem test_decode_i1 :
    reads .initiator (.frame
      [0x7E#8, 0x03#8, 0x80#8, 0x83#8, 0x41#8, 0x7D#8, 0x5E#8, 0x7D#8, 0x5D#8, 0x42#8, 0x00#8, 0x7E#8])
      = some (.i1 [0x41#8, 0x7E#8, 0x7D#8, 0x42#8] 0x00#8) := by decide

theorem test_decode_open :
    reads .initiator (.command 0x00#8 { channelId := 7, bitRate := 8, maxRetransmissions := 3, timeout := 2 })
      = some (.openCmd .initiator 7 8 3 2)
    ∧ reads .initiator (.command 0x04#8 { channelId := 7, bitRate := 8, maxRetransmissions := 3, timeout := 2 })
      = some (.openCmd .responder 7 8 3 2) := by decide

theorem test_decode_send : reads .initiator (.command 0x01#8 { payload := [0x41#8] }) = some (.sendCmd [0x41#8]) := by
  decide

theorem test_decode_receive : reads .initiator (.command 0x02#8 {}) = some .receiveCmd := by decide

theorem test_decode_close : reads .initiator (.command 0x03#8 {}) = some .closeCmd := by decide

theorem test_decode_refuses_commands :
    refuses .default .initiator (.command 0x05#8 {}) = some .roleOnNonOpen
    ∧ refuses .default .initiator (.command 0x06#8 {}) = some .roleOnNonOpen
    ∧ refuses .default .initiator (.command 0x07#8 {}) = some .roleOnNonOpen
    ∧ refuses .default .initiator (.command 0x08#8 {}) = some .reservedBits
    ∧ refuses .default .initiator (.command 0xFF#8 {}) = some .reservedBits := by decide

/-- V-CODEC-8 and V-CODEC-9, and bytes that do not make one whole frame. -/
theorem test_decode_refuses_frames :
    refuses .default .initiator (.frame [0x7E#8, 0x03#8, 0x03#8, 0x01#8, 0x7E#8]) = some .malformedFrame
    ∧ refuses .default .initiator (.frame [0x7E#8, 0x01#8, 0x07#8, 0x06#8, 0x7E#8]) = some .malformedFrame
    ∧ refuses .default .initiator (.frame [0x7E#8, 0x03#8, 0x01#8, 0x02#8, 0x7E#8]) = some .malformedFrame
    ∧ refuses .default .initiator (.frame [0x7E#8, 0x03#8, 0x00#8, 0x03#8, 0x41#8, 0x7E#8]) = some .malformedFrame
    ∧ refuses .default .initiator (.frame [0x7E#8, 0x03#8, 0x03#8, 0x00#8]) = some .incompleteFrame
    ∧ refuses .default .initiator (.frame [0x7E#8, 0x03#8, 0x03#8, 0x00#8, 0x7E#8, 0x7E#8]) = some .trailingBytes := by
  decide

/-- V-CODEC-12: one data byte too many, and exactly as many as fit. -/
theorem test_payload_bound :
    refuses smallPar .initiator (.frame [0x7E#8, 0x03#8, 0x00#8, 0x03#8, 0x01#8, 0x02#8, 0x03#8, 0x00#8, 0x7E#8])
      = some .malformedFrame
    ∧ refuses smallPar .initiator (.frame [0x7E#8, 0x03#8, 0x00#8, 0x03#8, 0x01#8, 0x02#8, 0x03#8, 0x7E#8]) = none := by
  decide

/-! ### Codec functions (V-CODEC-5, V-CODEC-11, V-CODEC-14) -/

theorem test_stuff : stuff [0x41#8, 0x7E#8, 0x7D#8, 0x42#8] = [0x41#8, 0x7D#8, 0x5E#8, 0x7D#8, 0x5D#8, 0x42#8] := by
  decide

theorem test_destuff :
    destuff [0x7D#8, 0x5D#8, 0x5E#8] = some [0x7D#8, 0x5E#8] ∧ destuff [0x7D#8, 0x41#8] = some [0x61#8]
    ∧ destuff [0x7D#8] = none := by decide

theorem test_encode_i :
    encodeI .default 0x03#8 false [0x11#8, 0x11#8, 0x7F#8, 0x22#8]
      = [0x7E#8, 0x03#8, 0x00#8, 0x03#8, 0x11#8, 0x11#8, 0x7F#8, 0x22#8, 0x5D#8, 0x7E#8]
    ∧ encodeI .default 0x01#8 true [0x7D#8] = [0x7E#8, 0x01#8, 0x80#8, 0x81#8, 0x7D#8, 0x5D#8, 0x7D#8, 0x5D#8, 0x7E#8] := by
  decide

/-- V-CODEC-10 and V-CODEC-11: a FLAG restarts a header, and is consumed after an ESC. -/
theorem test_parser_flags :
    (Parser.feed .default 0x03#8 .hunting [0x7E#8, 0x03#8, 0x7E#8, 0x03#8, 0x03#8, 0x00#8, 0x7E#8]).2
      = [.none, .none, .malformed, .none, .none, .none, .ctrl 0x03#8]
    ∧ Parser.feed .default 0x03#8 .hunting [0x7E#8, 0x03#8, 0x00#8, 0x03#8, 0x41#8, 0x7D#8, 0x7E#8, 0x03#8]
      = ({ pState := .idle, pCtrl := 0x00#8, acc :=
        [] }, [.none, .none, .none, .none, .none, .none, .malformed, .none]) := by
  decide

/-! ### One step of each instruction -/

/-- An engine with a Connection, `N = 3` and `T = 2`. -/
def connected (r : Role) : State :=
  { State.reset with
    conn := .connected, role := r, cfgN := 3, cfgT := 2, portOpen := true, openOk := true, closeOk := true }

/-- An engine in a phase of an operation, its timer armed with `T = 2`. -/
def during (r : Role) (p : Phase) : State :=
  { connected r with phase := p, attempts := 1, tmrArmed := true, tmrRem := 2 }

/-- A reset engine whose port answers. -/
def fresh : State := { State.reset with openOk := true, closeOk := true }

/-- "HELLO". -/
def hello : Bytes := [0x48#8, 0x45#8, 0x4C#8, 0x4C#8, 0x4F#8]

/-- V-CODEC-1: the frame of "HELLO" from the Initiator with `NS = 0`. -/
def helloFrame : Bytes := [0x7E#8, 0x03#8, 0x00#8, 0x03#8, 0x48#8, 0x45#8, 0x4C#8, 0x4C#8, 0x4F#8, 0x42#8, 0x7E#8]

/-- An Initiator that has sent "HELLO" once. -/
def sending : State := { during .initiator .sendWaitAck with txLen := 5, txBuf := helloFrame }

/-- A field of the next state. -/
def got {α : Type} (f : State → α) : Outcome → Option α
  | .next s => some (f s)
  | .fault _ => none
  | .refused _ => none

/-- Why a step is refused. -/
def why : Outcome → Option Refusal
  | .next _ => none
  | .fault _ => none
  | .refused r => some r

/-- `s` with one event pending and a port that answers. -/
def given (s : State) (e : Event) : State := { s with input := [Input.ofEvent e] }

/-- V-CONN-2 step 1. -/
theorem test_open_initiator :
    got (fun s => (s.phase, s.attempts, s.tmrRem, s.out)) (exec (.openCmd .initiator 7 8 3 1) fresh)
      = some (.openIWaitUa, 1, 1, [.portOpen 7 8, .tx [0x7E#8, 0x03#8, 0x03#8, 0x00#8, 0x7E#8]]) := by decide

/-- V-CONN-5. -/
theorem test_open_port_fails :
    got (fun s => (s.conn, s.portOpen, s.out)) (exec (.openCmd .initiator 7 8 3 2) State.reset)
      = some (.closed, false, [.portOpen 7 8, .resp (.err .channelUnavailable)]) := by decide

/-- V-CODEC-1. -/
theorem test_send :
    got (fun s => (s.phase, s.txLen, s.attempts, s.tmrRem, s.out)) (exec (.sendCmd hello) (connected .initiator))
      = some (.sendWaitAck, 5, 1, 2, [.tx helloFrame]) := by decide

/-- V-ARQ-6. -/
theorem test_send_without_budget :
    got (fun s => (s.phase, s.txLen, s.out)) (exec (.sendCmd [0x48#8, 0x49#8]) { connected .responder with cfgN := 0 })
      = some (.idle, 2, [.resp (.err .transferFailed)]) := by decide

/-- V-ARQ-8, with a timer that was armed: 43_timeout.md R253 disarms it when the operation starts. -/
theorem test_receive :
    got (fun s => (s.phase, s.tmrArmed, s.out)) (exec .receiveCmd { connected .responder with tmrArmed := true })
      = some (.recvWaitI, false, []) := by
  decide

/-- V-CONN-13. -/
theorem test_receive_not_connected :
    got (fun s => (s.phase, s.out)) (exec .receiveCmd State.reset) = some (.idle, [.resp (.err .notConnected)]) :=
      by decide

/-- V-CONN-9. -/
theorem test_close_initiator :
    got (fun s => (s.phase, s.out)) (exec .closeCmd (connected .initiator))
      = some (.closeIWaitDisc, [.tx [0x7E#8, 0x03#8, 0x0B#8, 0x08#8, 0x7E#8]]) := by decide

/-- V-ARQ-10: `DISC_SEEN` skips the wait, and is cleared. -/
theorem test_close_responder_after_disc :
    got (fun s => (s.phase, s.attempts, s.discSeen, s.out)) (exec .closeCmd { connected .responder with discSeen :=
      true })
      = some (.closeRWaitUa, 1, false, [.tx [0x7E#8, 0x01#8, 0x0B#8, 0x0A#8, 0x7E#8]]) := by decide

/-- V-CONN-6. -/
theorem test_set :
    got (fun s => (s.conn, s.phase, s.out)) (exec .set { fresh with role := .responder, phase := .openRWaitSet })
      = some (.connected, .idle, [.tx [0x7E#8, 0x01#8, 0x07#8, 0x06#8, 0x7E#8], .resp (.ok 0)]) := by decide

/-- V-ARQ-9: RECEIVE discards a SET. -/
theorem test_set_discarded :
    got (fun s => (s.phase, s.out)) (exec .set (during .responder .recvWaitI)) = some (.recvWaitI, []) := by decide

/-- V-CONN-1. -/
theorem test_ua_initiator :
    got (fun s => (s.conn, s.attempts, s.tmrArmed, s.tmrRem,
      s.out)) (exec .ua { during .initiator .openIWaitUa with tmrRem := 1 })
      = some (.connected, 0, false, 1, [.resp (.ok 0)]) := by decide

/-- V-CONN-11, the last line. -/
theorem test_ua_responder :
    got (fun s => (s.conn, s.portOpen, s.phase, s.out)) (exec .ua (during .responder .closeRWaitUa))
      = some (.closed, false, .idle, [.portClose, .resp (.ok 0)]) := by decide

/-- V-CONN-12: the port does not close. -/
theorem test_disc_initiator :
    got (fun s => (s.conn, s.portOpen, s.out)) (exec .disc { during .initiator .closeIWaitDisc with closeOk := false })
      = some (.closed, false,
          [.tx [0x7E#8, 0x03#8, 0x07#8, 0x04#8, 0x7E#8], .portClose, .resp (.err .channelUnavailable)]) := by decide

/-- V-ARQ-10. -/
theorem test_disc_receive :
    got (fun s => (s.discSeen, s.phase, s.out)) (exec .disc { connected .responder with phase := .recvWaitI })
      = some (true, .idle, [.resp (.ok 0)]) := by decide

/-- V-ARQ-8: the good frame. -/
theorem test_i0_delivered :
    got (fun s => (s.nr, s.rxBuf, s.phase, s.out)) (exec (.i0 hello 0x42#8) { connected .responder with phase :=
      .recvWaitI })
      = some (true, hello, .idle, [.tx [0x7E#8, 0x01#8, 0xAB#8, 0xAA#8, 0x7E#8], .resp (.ok 5)]) := by decide

/-- V-ARQ-9, first line: a duplicate. -/
theorem test_i0_duplicate :
    got (fun s => (s.nr, s.rxBuf, s.phase, s.out))
      (exec (.i0 hello 0x42#8) { connected .responder with phase := .recvWaitI, nr := true })
      = some (true, [], .recvWaitI, [.tx [0x7E#8, 0x01#8, 0xAB#8, 0xAA#8, 0x7E#8]]) := by decide

/-- V-ARQ-9, last line. -/
theorem test_i1_delivered :
    got (fun s => (s.nr, s.rxBuf, s.out))
      (exec (.i1 [0x48#8, 0x49#8] 0x01#8) { connected .responder with phase := .recvWaitI, nr := true })
      = some (false, [0x48#8, 0x49#8], [.tx [0x7E#8, 0x01#8, 0xAA#8, 0xAB#8, 0x7E#8], .resp (.ok 2)]) := by decide

/-- 42_arq.md R224: the check comes before the sequence bit; REJ carries `NR`. -/
theorem test_i1_damaged :
    got (fun s => (s.phase, s.out)) (exec (.i1 hello 0x43#8) { connected .responder with phase := .recvWaitI })
      = some (.recvWaitI, [.tx [0x7E#8, 0x01#8, 0x54#8, 0x55#8, 0x7E#8]]) := by decide

/-- V-ARQ-2: RR0 does not acknowledge the frame with `NS = 0`. -/
theorem test_rr0_ignored : got (fun s => (s.phase, s.tmrRem, s.out)) (exec .rr0 sending)
    = some (.sendWaitAck, 2, []) := by
  decide

/-- 42_arq.md R212 and R214 with `NS = 1`. -/
theorem test_rr0_acknowledges :
    got (fun s => (s.ns, s.phase, s.out)) (exec .rr0 { sending with ns := true })
      = some (false, .idle, [.resp (.ok 5)]) := by
  decide

/-- V-ARQ-1. -/
theorem test_rr1_acknowledges :
    got (fun s => (s.ns, s.tmrArmed, s.attempts, s.out)) (exec .rr1 sending)
      = some (true, false, 1, [.resp (.ok 5)]) := by
  decide

/-- V-ARQ-3. -/
theorem test_rej0_retransmits :
    got (fun s => (s.attempts, s.tmrRem, s.out)) (exec .rej0 { sending with tmrRem := 1 })
      = some (2, 2, [.tx helloFrame]) := by
  decide

/-- V-ARQ-4. -/
theorem test_rej0_exhausts :
    got (fun s => (s.ns, s.conn, s.attempts, s.tmrArmed, s.out)) (exec .rej0 { sending with cfgN := 2, attempts := 2 })
      = some (false, .connected, 2, false, [.resp (.err .transferFailed)]) := by decide

/-- V-ARQ-2. -/
theorem test_rej1_ignored : got (fun s => (s.phase, s.attempts, s.out)) (exec .rej1 sending)
    = some (.sendWaitAck, 1, []) := by
  decide

/-- 42_arq.md R212 and R215 with `NS = 1`. -/
theorem test_rej1_retransmits :
    got (fun s => (s.attempts, s.out)) (exec .rej1 { sending with ns := true }) = some (2, [.tx helloFrame]) :=
      by decide

/-! ### One step of each event -/

/-- V-CONN-3: step 7. -/
theorem test_tick_exhausts_open :
    got (fun s => (s.conn, s.portOpen, s.phase, s.out))
      (step (given { during .initiator .openIWaitUa with conn := .closed, attempts := 3, tmrRem := 1 } .tick))
      = some (.closed, false, .idle, [.portClose, .resp (.err .noResponse)]) := by decide

/-- V-ARQ-2: the second TICK. -/
theorem test_tick_retransmits :
    got (fun s => (s.attempts, s.tmrRem, s.out)) (step (given { sending with tmrRem := 1 } .tick))
      = some (2, 2, [.tx helloFrame]) := by decide

/-- V-CODEC-1: the closing FLAG of a UA ends OPEN. -/
theorem test_byte_completes_a_frame :
    got (fun s => (s.conn, s.pState, s.input, s.out))
      (step (given { during .initiator .openIWaitUa with conn := .closed, pState := .gotBcc1, pCtrl :=
        0x07#8 } (.byte 0x7E#8)))
      = some (.connected, .idle, [], [.resp (.ok 0)]) := by decide

/-- V-ARQ-7, V-CONN-14 and 70_reset_and_hazards.md R312. -/
theorem test_refusals :
    why (step (given sending (.cmd 0x02#8 {}))) = some .commandPending
    ∧ why (step (given (connected .initiator) (.cmd 0x00#8 { maxRetransmissions := 3, timeout := 2 })))
      = some .openWhileConnected
    ∧ why (step (given (connected .initiator) (.cmd 0x01#8 {}))) = some .badSendLength
    ∧ why (step (given (connected .initiator) (.cmd 0x05#8 {}))) = some .malformedCommand
    ∧ why (step (given { State.reset with par := { Config.default with cUa := 0x7D#8 } } .tick)) = some .badParameters
    ∧ why (step (given (connected .initiator) (.byte 0x7E#8))) = some .portReadWhileIdle
    ∧ why (step (given (connected .initiator) .noByte)) = some .portReadWhileIdle := by decide

/-! ### The table's words (log 13, log 14) -/

theorem test_table_words :
    decodeTableWord 8 0x03 = some .set ∧ decodeTableWord 8 0x07 = some .ua ∧ decodeTableWord 8 0x0B = some .disc
    ∧ decodeTableWord 8 0x00 = some (.i0 [0x00#8] 0x00#8) ∧ decodeTableWord 8 0x80 = some (.i1 [0x00#8] 0x00#8)
    ∧ decodeTableWord 8 0xAA = some .rr0 ∧ decodeTableWord 8 0xAB = some .rr1 ∧ decodeTableWord 8 0x54 = some .rej0
    ∧ decodeTableWord 8 0x55 = some .rej1 ∧ decodeTableWord 8 0x04 = some (.openCmd .responder 0 0 0 0)
    ∧ decodeTableWord 8 0x01 = some (.sendCmd [0x00#8]) ∧ decodeTableWord 8 0x02 = some .receiveCmd
    ∧ decodeTableWord 8 0x10 = none := by decide

/-- After reset the placed word is what the first step runs. -/
theorem test_placed_words :
    got (fun s => (s.conn, s.out)) (step (State.reset.withFetchWord 8 0x07)) = some (.connected, [.resp (.ok 0)])
    ∧ got (fun s => (s.phase, s.out)) (step (State.reset.withFetchWord 8 0x04)) = some (.openRWaitSet, [.portOpen 0 0])
    ∧ got (fun s => (s.rxBuf, s.nr)) (step (State.reset.withFetchWord 8 0x00)) = some ([0x00#8], true) := by decide


/-! ### Witnesses: the hypotheses of each statement met together, each clause at a boundary value -/

/-- An event with the port's answers as `Input.ofEvent` gives them. -/
theorem given_input (s : State) (e : Event) :
    (given s e).input = { event := e, openOk := true, closeOk := true } :: [] := rfl

theorem witness_ParameterCheckGuardsEveryStep :
    paramsOk { State.reset with par := { Config.default with cUa := 0x7D#8 } }.par = false := by decide

theorem witness_StepRunsTheDecodedCommand :
    let s := given (connected .initiator) (.cmd 0x02#8 {})
    paramsOk s.par = true ∧ s.phase = .idle ∧ s.input = { event := .cmd 0x02#8 {}, openOk := true, closeOk :=
      true } :: []
      ∧ decode s.par s.role (.command 0x02#8 {}) = .ok .receiveCmd := ⟨by decide, rfl, rfl, rfl⟩

/-- A byte that completes a frame, and one that completes none. -/
theorem witness_StepRunsTheDecodedFrame :
    let s := given { during .initiator .openIWaitUa with pState := .gotBcc1, pCtrl := 0x07#8 } (.byte 0x7E#8)
    let t := given { during .initiator .openIWaitUa with pState := .gotBcc1, pCtrl := 0x07#8 } (.byte 0x00#8)
    (paramsOk s.par = true ∧ s.phase ≠ .idle
      ∧ Parser.parse s.par (addr s.par (peer s.role)) { pState := s.pState, pCtrl := s.pCtrl, acc := s.acc } 0x7E#8
        = ({ pState := .idle, pCtrl := 0x07#8, acc := [] }, .ctrl 0x07#8)
      ∧ ParserEvent.instr s.par (.ctrl 0x07#8) = some .ua)
    ∧ paramsOk t.par = true ∧ t.phase ≠ .idle
      ∧ Parser.parse t.par (addr t.par (peer t.role)) { pState := t.pState, pCtrl := t.pCtrl, acc := t.acc } 0x00#8
        = ({ pState := .idle, pCtrl := 0x07#8, acc := [] }, .malformed)
      ∧ ParserEvent.instr t.par .malformed = none := by decide

theorem witness_PlacedWordIsWhatTheStepRuns :
    paramsOk State.reset.par = true ∧ tableInstr State.reset.par 8 0x07 = some .ua
      ∧ tableInstr State.reset.par 8 0x01 = some (.sendCmd [0x00#8]) := by decide

/-- The shortest and the longest payload. -/
theorem witness_FrameLengths :
    payloadInRange .default [0x00#8] = true ∧ payloadInRange .default (List.replicate 1000 0x7E#8) = true := by
  constructor
  · decide
  · simp only [payloadInRange, List.length_replicate]
    decide

theorem witness_ControlByteSelectsTheFrameType : paramsOk .default = true := by decide

theorem witness_CommandByteSpellsTheCommand : 4 < (0x05#8).toNat ∧ 4 < (0xFF#8).toNat := by decide

theorem witness_ParserDecodesEveryEncodedFrame :
    paramsOk .default = true ∧ (Parser.hunting.pState = .idle ∨ Parser.hunting.pState = .gotFlag)
      ∧ Parser.hunting.acc = []
      ∧ payloadInRange .default [0x7E#8] = true ∧ (controlInstr .rej1).isSome = true := by decide

theorem witness_DecodeInvertsEncode :
    paramsOk .default = true ∧ Instr.wf .default (.i1 [0x7D#8] 0x00#8) = true
      ∧ Instr.wf .default (.openCmd .responder 5 9 255 4294967295) = true := by decide

/-- V-CODEC-13: `48` becomes `49`. -/
theorem witness_SingleBitFlipGivesBadCheck :
    paramsOk .default = true ∧ payloadInRange .default hello = true
      ∧ (Parser.hunting.pState = .idle ∨ Parser.hunting.pState = .gotFlag)
      ∧ stuff (hello ++ [bcc2 hello]) = [] ++ 0x48#8 :: [0x45#8, 0x4C#8, 0x4C#8, 0x4F#8, 0x42#8] ∧ 0 < 8
      ∧ 0x48#8 ≠ ESC ∧ 0x48#8 ^^^ BitVec.twoPow 8 0 ≠ ESC ∧ 0x48#8 ^^^ BitVec.twoPow 8 0 ≠ FLAG := by decide

theorem witness_FlagResynchronisesTheParser :
    paramsOk .default = true ∧ payloadInRange .default [0x7E#8] = true ∧ (controlInstr .set).isSome = true := by decide

/-- One parser for each clause. -/
theorem witness_HeaderFaultsDropTheFrame :
    (0x55#8 ≠ FLAG ∧ 0x55#8 ≠ 0x03#8) ∧ 0x01#8 ≠ FLAG ∧ (∀ f, 0x01#8 ≠ control .default f)
      ∧ 0x01#8 ≠ 0x03#8 ^^^ Parser.pCtrl { pState := .gotCtrl, pCtrl := 0x03#8, acc := [] } := by
  refine ⟨by decide, by decide, ?_, by decide⟩
  intro f
  cases f <;> decide

/-- V-CODEC-12: `ACC` full at three bytes; then an `ESC`; then one byte. -/
theorem witness_DataFaultsDropTheFrame :
    let full : Parser := { pState := .data, pCtrl := 0x00#8, acc := [0x01#8, 0x02#8, 0x03#8] }
    full.acc.length = smallPar.maxPayload + 1 ∧ (0x00#8 ≠ FLAG ∧ 0x00#8 ≠ ESC)
      ∧ Parser.acc { full with pState := .esc } = full.acc ∧ ([0x41#8] : Bytes).length < 2 := by decide

theorem parserInv_hunting (c : Config) : ParserInv c .hunting := by constructor <;> simp [Parser.hunting]

theorem witness_ParserEventsCarryValidFrames :
    paramsOk .default = true ∧ ParserInv .default .hunting
      ∧ Parser.parse .default 0x03#8 .hunting FLAG = ({ Parser.hunting with pState := .gotFlag }, .none) :=
  ⟨by decide, parserInv_hunting _, rfl⟩

/-- V-TMR-1 and V-TMR-3: the last tick of `CFG_T = 3` and of `CFG_T = 0`. -/
theorem witness_TimerFiresOnTheLastTick :
    2 < State.attemptTicks { State.reset with cfgT := 3 } ∧ 0 < State.attemptTicks State.reset := by decide

theorem inv_reset : LinkInv State.reset ∧ Fits State.reset := by
  refine ⟨?_, by constructor <;> simp [State.reset]⟩
  constructor <;> simp [State.reset, Phase.timed?]
  exact parserInv_hunting _

theorem inv_sending : LinkInv sending ∧ Fits sending := by
  refine ⟨?_, by constructor <;> decide⟩
  constructor
  case parser_inv => exact parserInv_hunting _
  case one_outstanding => exact fun _ => ⟨hello, by decide, by decide, by decide⟩
  all_goals decide

/-- In `IDLE`, and in a phase with no timer (an OPEN that waits for a SET). -/
theorem witness_TickOutsideTimedPhasesHasNoEffect :
    let s := given State.reset .tick
    let t := given { State.reset with phase := .openRWaitSet, role := .responder, portOpen := true } .tick
    (paramsOk s.par = true ∧ LinkInv s ∧ s.phase = .idle)
      ∧ paramsOk t.par = true ∧ LinkInv t ∧ t.phase = .openRWaitSet := by
  refine ⟨⟨by decide, ?_, rfl⟩, by decide, ?_, rfl⟩
  · constructor <;> simp [given, State.reset, Phase.timed?]
    exact parserInv_hunting _
  · constructor <;> simp [given, State.reset, Phase.timed?]
    exact parserInv_hunting _

theorem witness_TickCountsDownInTimedPhases :
    let s := given sending .tick
    (paramsOk s.par = true ∧ s.phase.timed? ≠ none ∧ s.tmrArmed = true ∧ 1 < s.tmrRem)
      ∧ State.tmrArmed { s with tmrArmed := false } = false := by decide

theorem witness_NoByteChangesNoRegister :
    (paramsOk (given sending .noByte).par = true ∧ (given sending .noByte).phase ≠ .idle)
      ∧ paramsOk (given State.reset .noByte).par = true ∧ (given State.reset .noByte).phase = .idle := by decide

theorem witness_TimeoutRetransmits :
    let s := given { sending with tmrRem := 1 } .tick
    paramsOk s.par = true ∧ s.phase.timed? ≠ none ∧ s.tmrArmed = true ∧ s.tmrRem ≤ 1 ∧ s.attempts < s.cfgN := by decide

/-- Each of the four timed phases, with `ATTEMPTS = CFG_N`. -/
theorem witness_TimeoutExhaustsTheBudget : ∀ p ∈ [Phase.openIWaitUa, .sendWaitAck, .closeIWaitDisc, .closeRWaitUa],
    let s := given { during .initiator p with attempts := 3, tmrRem := 1 } .tick
    paramsOk s.par = true ∧ s.tmrArmed = true ∧ s.tmrRem ≤ 1 ∧ s.cfgN ≤ s.attempts ∧ s.phase = p := by decide

/-- The widest operands, for the three statements of OPEN with a budget, and a port that answers or does not. -/
theorem witness_OpenInitiatorSendsSet :
    fresh.phase = .idle ∧ fresh.conn = .closed ∧ 255 < 2 ^ fresh.par.wRetx ∧ 4294967295 < 2 ^ fresh.par.wTimer
      ∧ fresh.openOk = true ∧ 0 < 255 := by decide

theorem witness_OpenResponderWaitsForSet :
    fresh.phase = .idle ∧ fresh.conn = .closed ∧ 0 < 2 ^ fresh.par.wRetx ∧ 0 < 2 ^ fresh.par.wTimer
      ∧ fresh.openOk = true := by decide

theorem witness_OpenReportsAFailedPortAndRefusesWideOperands :
    State.reset.phase = .idle ∧ State.reset.conn = .closed
      ∧ (255 < 2 ^ State.reset.par.wRetx ∧ 4294967295 < 2 ^ State.reset.par.wTimer ∧ State.reset.openOk = false)
      ∧ 2 ^ State.reset.par.wRetx ≤ 256 ∧ 2 ^ State.reset.par.wTimer ≤ 4294967296 := by decide

theorem witness_EmptyBudgetEndsAtOnce :
    (fresh.phase = .idle ∧ fresh.conn = .closed ∧ 0 < 2 ^ fresh.par.wTimer ∧ fresh.openOk = true)
    ∧ ∀ r ∈ [Role.initiator, .responder],
      let s : State := { connected r with cfgN := 0, discSeen := true }
      s.phase = .idle ∧ s.conn = .connected ∧ payloadInRange s.par hello = true ∧ s.cfgN = 0
        ∧ (s.role = .initiator ∨ s.discSeen = true) := by decide

theorem witness_SendTransmitsTheFrame :
    let s := connected .responder
    s.phase = .idle ∧ s.conn = .connected ∧ 1 ≤ ([0x7E#8] : Bytes).length ∧ ([0x7E#8] : Bytes).length ≤ s.par.maxPayload
      ∧ 0 < s.cfgN := by decide

theorem witness_ReceiveWaitsForAFrame : (connected .initiator).phase = .idle
    ∧ (connected .initiator).conn = .connected := by
  decide

theorem witness_CloseInitiatorSendsDisc :
    let s := connected .initiator
    s.phase = .idle ∧ s.conn = .connected ∧ s.role = .initiator ∧ 0 < s.cfgN := by decide

theorem witness_CloseResponderAnswersTheDisc :
    let s := connected .responder
    let t : State := { s with discSeen := true }
    (s.phase = .idle ∧ s.conn = .connected ∧ s.role = .responder ∧ s.discSeen = false)
      ∧ t.phase = .idle ∧ t.conn = .connected ∧ t.role = .responder ∧ t.discSeen = true ∧ 0 < t.cfgN := by decide

theorem witness_CommandsWithoutConnectionAnswerNotConnected :
    State.reset.phase = .idle ∧ State.reset.conn = .closed ∧ payloadInRange State.reset.par [0x41#8] = true := by decide

/-- One state and event for each case of R282. -/
theorem witness_TheSixRefusals :
    paramsOk sending.par = true ∧ sending.phase ≠ .idle
    ∧ (connected .initiator).phase = .idle ∧ (connected .initiator).conn = .connected
    ∧ reads .initiator (.command 0x00#8 {}) = some (.openCmd .initiator 0 0 0 0)
    ∧ reads .initiator (.command 0x01#8 {}) = some (.sendCmd []) ∧ ([] : Bytes).length = 0
    ∧ 4 < (0x05#8).toNat
    ∧ why (step (given (connected .initiator) .noByte)) = some .portReadWhileIdle := by decide

theorem witness_SetConnectsTheResponder : (during .responder .openRWaitSet).phase = .openRWaitSet := by decide

theorem witness_UaConnectsTheInitiator : (during .initiator .openIWaitUa).phase = .openIWaitUa := by decide

theorem witness_UaEndsTheRespondersClose : (during .responder .closeRWaitUa).phase = .closeRWaitUa := by decide

theorem witness_DiscEndsTheInitiatorsClose : (during .initiator .closeIWaitDisc).phase = .closeIWaitDisc := by decide

theorem witness_DiscStartsTheRespondersDisc :
    let s := during .responder .closeRWaitDisc
    s.phase = .closeRWaitDisc ∧ 0 < s.cfgN ∧ State.cfgN { s with cfgN := 0 } = 0 := by decide

theorem witness_DiscEndsReceive : (during .responder .recvWaitI).phase = .recvWaitI := by decide

/-- Both expected bits, and a payload of one byte. -/
theorem witness_InfoFrameIsDelivered : ∀ b ∈ [false, true],
    let s : State := { during .responder .recvWaitI with nr := b }
    s.phase = .recvWaitI ∧ 1 ≤ ([0x7E#8] : Bytes).length ∧ ([0x7E#8] : Bytes).length ≤ s.par.maxPayload ∧ s.nr = b := by
  decide

theorem witness_DuplicateIsReacknowledged : ∀ b ∈ [false, true],
    let s : State := { during .responder .recvWaitI with nr := b }
    s.phase = .recvWaitI ∧ 1 ≤ hello.length ∧ hello.length ≤ s.par.maxPayload ∧ s.nr = b := by decide

theorem witness_DamagedInfoFrameIsRejected :
    let s := during .responder .recvWaitI
    s.phase = .recvWaitI ∧ 1 ≤ hello.length ∧ hello.length ≤ s.par.maxPayload ∧ 0x43#8 ≠ bcc2 hello := by decide

theorem witness_RrAcknowledgesTheSend :
    sending.phase = .sendWaitAck ∧ sending.ns = false ∧ State.ns { sending with ns := true } = true := by decide

theorem witness_RejRetransmitsWithinTheBudget :
    let s : State := { sending with attempts := 3 }
    (sending.phase = .sendWaitAck ∧ sending.ns = false ∧ sending.attempts < sending.cfgN)
      ∧ s.phase = .sendWaitAck ∧ s.ns = false ∧ s.cfgN ≤ s.attempts := by decide

theorem witness_UnawaitedFramesAreDiscarded :
    Instr.frameType? .rr0 ≠ none ∧ sending.phase ≠ .idle ∧ awaits sending .rr0 = false := by decide

/-- For `StepKeepsTheInvariants` and `StepKeepsTheRegisterBounds`. -/
theorem witness_StepKeepsTheInvariants :
    LinkInv State.reset ∧ Fits State.reset ∧ step State.reset = .next State.reset := ⟨inv_reset.1, inv_reset.2, rfl⟩

theorem witness_OnlyOpenWritesTheConfiguration :
    ∃ t, step (given fresh (.cmd 0x04#8 { channelId := 7, bitRate := 8, maxRetransmissions := 3, timeout :=
      2 })) = .next t
      ∧ t.role = .responder ∧ t.cfgCh = 7 := ⟨_, rfl, rfl, rfl⟩

theorem witness_SequenceBitsMoveOnlyOnSuccess :
    ∃ t, step (given { sending with pState := .gotBcc1, pCtrl := 0xAB#8 } (.byte 0x7E#8)) = .next t ∧ t.ns = true :=
  ⟨_, rfl, rfl⟩

theorem witness_EveryCommandIsAnsweredOnce :
    ∃ t, step (given State.reset (.cmd 0x02#8 {})) = .next t ∧ t.out = [.resp (.err .notConnected)] := ⟨_, rfl, rfl⟩

theorem witness_SendTransmitsOnlyItsOneFrame :
    LinkInv sending ∧ sending.phase = .sendWaitAck ∧ step sending = .next sending := ⟨inv_sending.1, rfl, rfl⟩

theorem witness_EveryTransmittedFrameIsTheRolesOwn :
    LinkInv { sending with input := [Input.ofEvent .tick], tmrRem := 1 }
      ∧ ∃ t, step { sending with input := [Input.ofEvent .tick], tmrRem := 1 } = .next t
        ∧ t.out = [.tx helloFrame] := by
  have h := inv_sending.1
  exact ⟨⟨h.1, h.2, h.3, h.4, h.5, h.6, h.7, h.8, h.9, h.10⟩, _, rfl, rfl⟩

/-- Two states that differ in every register of 10_state.md R45's "none". -/
theorem witness_StepCannotTellUnwrittenRegisters :
    AgreeOnWritten State.reset
      { State.reset with role := .responder, cfgCh := 1, cfgRate := 2, cfgN := 3, cfgT := 4, pCtrl := 0x80#8 } := by
  refine ⟨rfl, fun h => ?_, fun h => ?_⟩
  · revert h
    decide
  · exact absurd rfl h

/-- V-ARQ-5: the first of three attempts, and the last. -/
theorem witness_RetriesExhaustExactly :
    (paramsOk sending.par = true ∧ sending.phase = TimedPhase.send.phase ∧ 1 ≤ sending.attempts
      ∧ sending.attempts ≤ sending.cfgN ∧ sending.tmrArmed = true ∧ sending.tmrRem = sending.cfgT)
    ∧ State.attempts { sending with attempts := 3 } ≤ sending.cfgN := by decide

theorem witness_EachSendIsDeliveredAtMostOnce :
    (connected .responder).conn = .connected ∧ (connected .responder).phase = .idle
      ∧ (copies [.copy 0, .damaged true hello 0x43#8, .copy 0, .copy 1]).Pairwise (· ≤ ·)
      ∧ ∀ b d x, Arrival.damaged b d x ∈ [Arrival.copy 0, .damaged true hello 0x43#8, .copy 0, .copy 1] →
        x ≠ bcc2 d := by
  refine ⟨rfl, rfl, by decide, ?_⟩
  intro b d x h
  simp only [List.mem_cons, Arrival.damaged.injEq, reduceCtorEq, List.not_mem_nil, or_false, false_or] at h
  obtain ⟨rfl, rfl, rfl⟩ := h
  decide

theorem witness_CleanTransferDeliversThePayload :
    let y := during .responder .recvWaitI
    paramsOk sending.par = true ∧ y.par = sending.par ∧ y.role = peer sending.role ∧ sending.phase = .sendWaitAck
      ∧ payloadInRange sending.par hello = true ∧ sending.txLen = hello.length
      ∧ sending.txBuf = encodeI sending.par (addr sending.par sending.role) sending.ns hello ∧ sending.pState = .idle
      ∧ y.phase = .recvWaitI ∧ y.nr = sending.ns ∧ y.pState = .idle := by decide

theorem witness_OpenHandshakeConnectsBothEnds :
    let x : State := { during .initiator .openIWaitUa with txBuf := [0x7E#8, 0x03#8, 0x03#8, 0x00#8, 0x7E#8] }
    let y := during .responder .openRWaitSet
    paramsOk x.par = true ∧ y.par = x.par ∧ x.role = .initiator ∧ y.role = .responder ∧ x.phase = .openIWaitUa
      ∧ x.txBuf = encodeC x.par.aI x.par.cSet ∧ x.pState = .idle ∧ y.phase = .openRWaitSet ∧ y.pState = .idle :=
        by decide

end Sys2Proof.Machine
end

