-- ==== Sys2Proof/Proofs/Scope.lean ====
section
/-! PROOF. The statements of 00_scope.md: the parameter check (R9, R10) and the step on a command (R14). -/

namespace Sys2Proof.Machine

/-! ### The parameter check -/

variable {c : Config}

theorem frameTypes_nodup : frameTypes.Nodup := by decide

theorem mem_controls {b : Byte} : b ∈ controls c ↔ ∃ f, control c f = b := by
  simp [controls, mem_frameTypes]

theorem mem_bcc1s {b : Byte} : b ∈ bcc1s c ↔ ∃ r f, addr c r ^^^ control c f = b := by
  simp only [bcc1s, List.mem_append, List.mem_map, mem_controls, exists_exists_eq_and]
  constructor
  · rintro (⟨f, hf⟩ | ⟨f, hf⟩)
    · exact ⟨.initiator, f, hf⟩
    · exact ⟨.responder, f, hf⟩
  · rintro ⟨r, f, hf⟩
    cases r with
    | initiator => exact .inl ⟨f, hf⟩
    | responder => exact .inr ⟨f, hf⟩

/-- The bytes that `paramsOk` holds against FLAG and ESC are the addresses, the control values and the BCC1 values. -/
theorem mem_checkedBytes {b : Byte} :
    b ∈ c.aI :: c.aR :: controls c ++ bcc1s c ↔
      (∃ r, addr c r = b) ∨ (∃ f, control c f = b) ∨ ∃ r f, addr c r ^^^ control c f = b := by
  have haddr : (∃ r, addr c r = b) ↔ b = c.aI ∨ b = c.aR := by
    constructor
    · rintro ⟨r, rfl⟩
      cases r with
      | initiator => exact .inl rfl
      | responder => exact .inr rfl
    · rintro (rfl | rfl)
      · exact ⟨.initiator, rfl⟩
      · exact ⟨.responder, rfl⟩
  rw [haddr]
  simp only [List.cons_append, List.mem_cons, List.mem_append, mem_controls, mem_bcc1s, or_assoc]

theorem controls_nodup (h : ∀ f g, control c f = control c g → f = g) : (controls c).Nodup :=
  frameTypes_nodup.map fun f g => h f g

theorem paramsOk_iff :
    paramsOk c = true ↔
      c.aI ≠ c.aR
      ∧ (∀ f g : FrameType, control c f = control c g → f = g)
      ∧ (∀ r : Role, addr c r ≠ FLAG ∧ addr c r ≠ ESC)
      ∧ (∀ f : FrameType, control c f ≠ FLAG ∧ control c f ≠ ESC)
      ∧ (∀ (r : Role) (f : FrameType), addr c r ^^^ control c f ≠ FLAG ∧ addr c r ^^^ control c f ≠ ESC)
      ∧ 1 ≤ c.maxPayload := by
  constructor
  · intro h
    exact ⟨paramsOk_addr_ne h, fun _ _ => paramsOk_control_injective h, paramsOk_addr h, paramsOk_control h,
      paramsOk_bcc1 h, paramsOk_maxPayload h⟩
  · rintro ⟨hne, hinj, haddr, hctrl, hbcc1, hmax⟩
    have hbytes : ∀ b ∈ c.aI :: c.aR :: controls c ++ bcc1s c, reserved b = false := by
      intro b hb
      rw [reserved_false]
      obtain ⟨r, rfl⟩ | ⟨f, rfl⟩ | ⟨r, f, rfl⟩ := mem_checkedBytes.mp hb
      · exact haddr r
      · exact hctrl f
      · exact hbcc1 r f
    simp only [paramsOk, Bool.and_eq_true, bne_iff_ne, decide_eq_true_eq, List.all_eq_true, Bool.not_eq_true']
    exact ⟨⟨⟨hne, controls_nodup hinj⟩, hbytes⟩, hmax⟩

theorem paramsOk_default : paramsOk .default = true := by decide

/-- Settles O1: the lists that `paramsOk` runs through are the addresses, control and BCC1 values of R9, and the step
asks for `paramsOk` before it looks at an event. -/
theorem parameterCheckGuardsEveryStep : Obligations.ParameterCheckGuardsEveryStep :=
  ⟨fun _ => paramsOk_iff, paramsOk_default, fun _ => step_badParameters⟩

/-! ### The step on a command -/

theorem onCommand_of_decodeCommand {s : State} {b : Byte} {o : Operands} {i : Instr} (hph : s.phase = .idle)
    (hd : decodeCommand b o = .ok i) : onCommand b o s = exec i s := by
  simp [onCommand, hph, hd]

/-- Settles O4: the step takes the oldest input, and a command event in `IDLE` runs what `decodeCommand` reads. -/
theorem stepRunsTheDecodedCommand : Obligations.StepRunsTheDecodedCommand := by
  intro s rest b o openOk closeOk i hp hph hi hd
  rw [step_cons hp hi]
  exact onCommand_of_decodeCommand hph hd

end Sys2Proof.Machine
end

section
/-! PROOF. The statements of 10_state.md: what every step keeps (R46, R34 to R44), which steps write the Link
Configuration and the sequence bits (R32, R34, R36), and that no step can tell a register that holds no value (R45). -/

namespace Sys2Proof.Machine

/-! ### The parser registers (R46 item 5) -/

/-- The parser states in which no rule has written `P_CTRL` for the frame in progress (40_frame_codec.md R143). -/
def BeforeControl (q : PState) : Prop := q = .idle ∨ q = .gotFlag ∨ q = .gotAddr

section
variable {c : Config} {p : Parser}

/-- A parser that has taken no control byte and holds no data claims nothing of `P_CTRL`. -/
theorem ParserInv.of_beforeControl (hs : BeforeControl p.pState) (ha : p.acc = []) : ParserInv c p := by
  obtain hs | hs | hs := hs <;> constructor <;> simp [hs, ha]

theorem closeFrame_parser (c : Config) (p : Parser) : (p.closeFrame c).1 = { p with acc := [], pState := .idle } := by
  unfold Parser.closeFrame
  cases p.acc.getLast? with
  | none => rfl
  | some x =>
    dsimp only
    split
    · rfl
    · split <;> rfl

theorem append_keeps_parserInv (h : ParserInv c p) (hs : p.pState = .data) (d : Byte) :
    ParserInv c (p.append c d).1 := by
  unfold Parser.append
  split
  · exact .of_beforeControl (.inl rfl) rfl
  · rename_i hfull
    have hle := h.acc_bounded
    have hne : p.acc.length ≠ c.maxPayload + 1 := by simpa using hfull
    exact {
      acc_bounded := by simp only [List.length_append, List.length_singleton]; omega
      acc_empty := fun hd => absurd hs hd
      ctrl_known := by simp [hs]
      ctrl_control := by simp [hs]
      ctrl_info := fun _ => h.ctrl_info (.inl hs) }

/-- The byte that matches BCC1 opens a data field behind an Information control byte and only awaits the closing FLAG
behind any other (40_frame_codec.md R144). -/
theorem ParserInv.of_checked (hk : ∃ f, p.pCtrl = control c f) (ha : p.acc = []) :
    ParserInv c (if p.pCtrl == c.cI0 || p.pCtrl == c.cI1 then { p with acc := [], pState := .data }
      else { p with pState := .gotBcc1 }) := by
  split
  · rename_i hi
    have hinfo : ∃ b, p.pCtrl = cI c b := by
      simp only [Bool.or_eq_true, beq_iff_eq] at hi
      obtain hi | hi := hi
      · exact ⟨false, hi⟩
      · exact ⟨true, hi⟩
    constructor <;> simp [hinfo]
  · rename_i hi
    obtain ⟨f, hf⟩ := hk
    have hcontrol : (controlInstr f).isSome = true := by
      cases f <;> simp_all [controlInstr, control]
    constructor
    case ctrl_control => exact fun _ => ⟨f, hcontrol, hf⟩
    all_goals simp [ha]

/-- One parser step keeps the parser registers in agreement with the parser state. -/
theorem parse_keeps_parserInv (h : ParserInv c p) (ea b : Byte) : ParserInv c (p.parse c ea b).1 := by
  unfold Parser.parse
  cases hs : p.pState with
  | idle =>
    have ha := h.acc_empty (by simp [hs]) (by simp [hs])
    dsimp only
    split
    · exact .of_beforeControl (.inr (.inl rfl)) ha
    · exact h
  | gotFlag =>
    have ha := h.acc_empty (by simp [hs]) (by simp [hs])
    dsimp only
    split
    · exact h
    · split
      · exact .of_beforeControl (.inr (.inr rfl)) ha
      · exact .of_beforeControl (.inl rfl) ha
  | gotAddr =>
    have ha := h.acc_empty (by simp [hs]) (by simp [hs])
    dsimp only
    split
    · exact .of_beforeControl (.inr (.inl rfl)) ha
    · split
      · rename_i hf
        obtain ⟨f, hf⟩ := Option.isSome_iff_exists.mp hf
        have hb : ∃ g, b = control c g := ⟨f, control_of_frameTypeOf hf⟩
        constructor <;> simp [ha, hb]
      · exact .of_beforeControl (.inl rfl) ha
  | gotCtrl =>
    have ha := h.acc_empty (by simp [hs]) (by simp [hs])
    dsimp only
    split
    · exact .of_beforeControl (.inr (.inl rfl)) ha
    · split
      · simpa only [apply_ite Prod.fst] using ParserInv.of_checked (h.ctrl_known hs) ha
      · exact .of_beforeControl (.inl rfl) ha
  | gotBcc1 =>
    have ha := h.acc_empty (by simp [hs]) (by simp [hs])
    dsimp only
    split <;> exact .of_beforeControl (.inl rfl) ha
  | data =>
    dsimp only
    split
    · rw [closeFrame_parser]
      exact .of_beforeControl (.inl rfl) rfl
    · split
      · exact {
          acc_bounded := h.acc_bounded
          acc_empty := fun _ he => absurd rfl he
          ctrl_known := nofun
          ctrl_control := nofun
          ctrl_info := fun _ => h.ctrl_info (.inl hs) }
      · exact append_keeps_parserInv h hs b
  | esc =>
    dsimp only
    split
    · exact .of_beforeControl (.inl rfl) rfl
    · refine append_keeps_parserInv ?_ rfl _
      exact {
        acc_bounded := h.acc_bounded
        acc_empty := fun hd => absurd rfl hd
        ctrl_known := nofun
        ctrl_control := nofun
        ctrl_info := fun _ => h.ctrl_info (.inr hs) }

end

/-! ### Predicates that every step keeps -/

/-- What taking the input, a parser step, every effect of an instruction and every effect of a `TICK` keep, a step
keeps. -/
theorem step_keeps {P : State → Prop} {s t : State} (htake : ∀ {x} i rest, P x → P (x.take i rest))
    (hparse : ∀ {x} b, P x → P (x.setParser (x.parseByte b).1)) (hexec : ∀ {x y i}, Effect x i y → P x → P y)
    (htick : ∀ {x y}, TickEffect x y → P x → P y) (h : P s) (hs : step s = .next t) : P t := by
  obtain ⟨-, ⟨-, rfl⟩ | ⟨i, rest, u, -, rfl, hstep⟩⟩ := step_effect hs
  · exact h
  have hu := htake i rest h
  obtain ⟨b, o, c, -, -, -, e⟩ | ⟨b, c, -, -, -, e⟩ | ⟨b, -, -, rfl⟩ | ⟨-, -, rfl⟩ | ⟨-, e⟩ := hstep
  · exact hexec e hu
  · exact hexec e (hparse b hu)
  · exact hparse b hu
  · exact hu
  · exact htick e hu

/-! ### What the invariants say of a phase -/

section
variable {s u : State}

theorem LinkInv.disarmed_of_untimed (h : LinkInv s) (hph : s.phase.timed? = none) : s.tmrArmed = false :=
  Bool.eq_false_iff.mpr fun ha => h.timer_timed ha hph

/-- Outside an OPEN in progress the port is held exactly while there is a Connection. -/
theorem LinkInv.port_iff_connected (h : LinkInv s) (hph : s.phase ≠ .openIWaitUa ∧ s.phase ≠ .openRWaitSet) :
    s.portOpen = true ↔ s.conn = .connected := by
  simpa [hph] using h.port_held

/-- With no operation in progress R46 asks only for a disarmed timer, a port held with the Connection, and R46 item 5. -/
theorem LinkInv.of_idle (hph : s.phase = .idle) (ht : s.tmrArmed = false)
    (hport : s.portOpen = true ↔ s.conn = .connected) (hq : ParserInv s.par s.parser) : LinkInv s := by
  constructor
  case port_held => simpa [hph] using hport
  case parser_inv => exact hq
  all_goals simp [hph, ht, Phase.timed?]

theorem LinkInv.take (h : LinkInv s) (i : Input) (rest : List Input) : LinkInv (s.take i rest) := { h with }

theorem LinkInv.set_out (h : LinkInv s) (as : List Action) : LinkInv { s with out := as } := { h with }

/-- A retransmission within the budget counts an attempt and rearms the timer of the same phase. -/
theorem LinkInv.retransmitted (h : LinkInv s) {p : TimedPhase} (hph : s.phase = p.phase) (hb : s.attempts < s.cfgN)
    (r : Nat) (as : List Action) :
    LinkInv { s with attempts := s.attempts + 1, tmrArmed := true, tmrRem := r, out := as } := {
  h with
  attempts_bounded := fun _ => hb
  timer_timed := fun _ => by simp [hph, timed_of_phase]
  waiting_disc_no_attempt := fun hd => by
    have := timed_of_phase p
    rw [← hph, show s.phase = .closeRWaitDisc from hd] at this
    cases this }

/-- Every effect of an instruction keeps the invariants: an operation that ends leaves `IDLE` with the timer disarmed and
the port held with the Connection; one that starts writes all that its phase asks for. -/
theorem Effect.keeps_linkInv {i : Instr} (e : Effect s i u) (h : LinkInv s) : LinkInv u := by
  cases e with
  | openFailed r ch rate n t idle closed fits port =>
    exact .of_idle rfl rfl (h.port_iff_connected (by simp [idle])) (.of_beforeControl (.inl rfl) rfl)
  | openWaits ch rate n t idle closed fits port =>
    constructor
    case parser_inv => exact .of_beforeControl (.inl rfl) rfl
    all_goals simp [Phase.timed?, closed]
  | openStarted ch rate n t idle closed fits port budget =>
    constructor
    case parser_inv => exact .of_beforeControl (.inl rfl) rfl
    case initiator_frames => exact ⟨fun _ => ⟨rfl, rfl⟩, nofun⟩
    case attempts_bounded => exact fun _ => budget
    all_goals simp [Phase.timed?, closed]
  | openExhausted ch rate t idle closed fits port =>
    exact .of_idle rfl rfl (by simp [closed]) (.of_beforeControl (.inl rfl) rfl)
  | notConnected i idle closed command =>
    exact .of_idle rfl (h.disarmed_of_untimed (by simp [idle, Phase.timed?]))
      (h.port_iff_connected (by simp [idle])) h.parser_inv
  | sendStarted p idle connected length budget =>
    have hport := (h.port_iff_connected (by simp [idle])).mpr connected
    constructor
    case parser_inv => exact .of_beforeControl (.inl rfl) rfl
    case one_outstanding => exact fun _ => ⟨p, length, rfl, rfl⟩
    case attempts_bounded => exact fun _ => budget
    all_goals simp [Phase.timed?, connected, hport]
  | sendExhausted p idle connected length budget =>
    exact .of_idle rfl rfl (h.port_iff_connected (by simp [idle])) (.of_beforeControl (.inl rfl) rfl)
  | receiveWaits idle connected =>
    have hport := (h.port_iff_connected (by simp [idle])).mpr connected
    constructor
    case parser_inv => exact .of_beforeControl (.inl rfl) rfl
    all_goals simp [Phase.timed?, connected, hport]
  | closeStartedI idle connected role budget =>
    have hport := (h.port_iff_connected (by simp [idle])).mpr connected
    constructor
    case parser_inv => exact .of_beforeControl (.inl rfl) rfl
    case attempts_bounded => exact fun _ => budget
    all_goals simp [Phase.timed?, connected, hport, role, State.controlFrame, State.ownAddr, addr, control]
  | closeWaitsR idle connected role seen =>
    have hport := (h.port_iff_connected (by simp [idle])).mpr connected
    constructor
    case parser_inv => exact .of_beforeControl (.inl rfl) rfl
    all_goals simp [Phase.timed?, connected, hport, role]
  | closeStartedR idle connected role seen budget =>
    have hport := (h.port_iff_connected (by simp [idle])).mpr connected
    constructor
    case parser_inv => exact .of_beforeControl (.inl rfl) rfl
    case attempts_bounded => exact fun _ => budget
    all_goals simp [Phase.timed?, connected, hport, role, State.controlFrame, State.ownAddr, addr, control]
  | closeExhausted idle connected path budget => exact .of_idle rfl rfl (by simp) (.of_beforeControl (.inl rfl) rfl)
  | discarded i frame busy => exact h
  | setAnswered waits =>
    have hport := h.port_held.mpr (.inr (.inr waits))
    exact .of_idle rfl (h.disarmed_of_untimed (by simp [waits, Phase.timed?])) (by simp [hport]) h.parser_inv
  | uaConnects waits =>
    have hport := h.port_held.mpr (.inr (.inl waits))
    exact .of_idle rfl rfl (by simp [hport]) h.parser_inv
  | uaCloses waits => exact .of_idle rfl rfl (by simp) h.parser_inv
  | discCloses waits => exact .of_idle rfl rfl (by simp) h.parser_inv
  | discStarts waits budget =>
    have hconn := h.connected (by simp [waits])
    have hport := h.port_held.mpr (.inl hconn)
    have hrole := h.responder_frames.1 (.inr waits)
    constructor
    case parser_inv => exact h.parser_inv
    case attempts_bounded =>
      intro _
      have hfirst := h.waiting_disc_no_attempt waits
      show s.attempts + 1 ≤ s.cfgN
      omega
    all_goals simp [Phase.timed?, hconn, hport, hrole, State.controlFrame, State.ownAddr, addr, control]
  | discExhausted waits budget => exact .of_idle rfl rfl (by simp) h.parser_inv
  | discEndsReceive waits =>
    exact .of_idle rfl (h.disarmed_of_untimed (by simp [waits, Phase.timed?]))
      (h.port_iff_connected (by simp [waits])) h.parser_inv
  | delivered b d waits length expected =>
    exact .of_idle rfl (h.disarmed_of_untimed (by simp [waits, Phase.timed?]))
      (h.port_iff_connected (by simp [waits])) h.parser_inv
  | duplicate b d waits length old => exact h.set_out _
  | damaged b d x waits length check => exact h.set_out _
  | acknowledged i waits bit =>
    exact .of_idle rfl rfl (h.port_iff_connected (by simp [waits])) h.parser_inv
  | rejectedAgain i waits bit budget => exact h.retransmitted (p := .send) waits budget _ _
  | rejectedSpent i waits bit budget =>
    exact .of_idle rfl rfl (h.port_iff_connected (by simp [waits])) h.parser_inv

/-- Every effect of a `TICK` keeps the invariants. -/
theorem TickEffect.keeps_linkInv (e : TickEffect s u) (h : LinkInv s) : LinkInv u := by
  cases e with
  | nothing => exact h
  | counts armed left => exact { h with }
  | ranOut idle armed last =>
    exact .of_idle idle rfl (h.port_iff_connected (by simp [idle])) h.parser_inv
  | retransmitted p waits budget => exact h.retransmitted waits budget _ _
  | openExhausted waits => exact .of_idle rfl rfl (by simp [h.opening_closed (.inl waits)]) h.parser_inv
  | sendExhausted waits =>
    exact .of_idle rfl rfl (h.port_iff_connected (by simp [waits])) h.parser_inv
  | closeExhausted waits => exact .of_idle rfl rfl (by simp) h.parser_inv

theorem LinkInv.parseByte (h : LinkInv s) (b : Byte) : LinkInv (s.setParser (s.parseByte b).1) :=
  { h with parser_inv := parse_keeps_parserInv h.parser_inv _ b }

/-- Settles O49: taking the input and the parser step keep the invariants, and so does every effect of an instruction and
of a `TICK`. -/
theorem stepKeepsTheInvariants : Obligations.StepKeepsTheInvariants := by
  intro s s' h hs
  exact step_keeps (fun i rest h => h.take i rest) (fun b h => h.parseByte b) Effect.keeps_linkInv
    TickEffect.keeps_linkInv h hs

end

/-! ### The register bounds (R34, R38, R40, R41, R42, R44) -/

theorem stuff_length_le (xs : Bytes) : (stuff xs).length ≤ 2 * xs.length := by
  induction xs with
  | nil => simp [stuff]
  | cons x xs ih =>
    simp only [stuff, List.length_append, List.length_cons]
    split <;> simp <;> omega

theorem payloadInRange_iff {c : Config} {p : Bytes} :
    payloadInRange c p = true ↔ 1 ≤ p.length ∧ p.length ≤ c.maxPayload := by
  simp [payloadInRange]

/-- 40_frame_codec.md R133: the longest Information frame the block sends. -/
theorem encodeI_length_le {c : Config} {p : Bytes} (h : payloadInRange c p = true) (a : Byte) (b : Bit) :
    (encodeI c a b p).length ≤ 2 * c.maxPayload + 7 := by
  have hstuff := stuff_length_le (p ++ [bcc2 p])
  have hp := (payloadInRange_iff.mp h).2
  simp only [List.length_append, List.length_singleton] at hstuff
  simp only [encodeI, infoFrame, List.length_append, List.length_cons, List.length_nil]
  omega

theorem encodeC_length_le (a k : Byte) (m : Nat) : (encodeC a k).length ≤ 2 * m + 7 := by
  simp only [encodeC, List.length_cons, List.length_nil]
  omega

section
variable {s u : State}

/-- An attempt counted within the budget arms the timer with `CFG_T`. -/
theorem Fits.attempt (h : Fits s) {a : Nat} (ha : a ≤ s.cfgN) {b : Bytes}
    (hb : b.length ≤ 2 * s.par.maxPayload + 7) :
    Fits { s with txBuf := b, attempts := a, tmrArmed := true, tmrRem := s.cfgT } :=
  { h with
    attempts_fits := Nat.lt_of_le_of_lt ha h.cfgN_fits
    tmrRem_fits := h.cfgT_fits
    countdown_bounded := fun _ => Nat.le_refl _
    txBuf_bounded := hb }

/-- Every effect of an instruction keeps the register bounds: OPEN latches operands that fit, `ATTEMPTS` grows only below
`CFG_N`, and the timer is armed with `CFG_T`. -/
theorem Effect.keeps_fits {i : Instr} (e : Effect s i u) (hinv : LinkInv s) (h : Fits s) : Fits u := by
  have hzero : 0 < 2 ^ s.par.wRetx := Nat.two_pow_pos _
  cases e with
  | openFailed r ch rate n t idle closed fits port =>
    exact { h with
      cfgN_fits := fits.1, attempts_fits := hzero, cfgT_fits := fits.2, countdown_bounded := nofun }
  | openWaits ch rate n t idle closed fits port =>
    exact { h with
      cfgN_fits := fits.1, attempts_fits := hzero, cfgT_fits := fits.2, countdown_bounded := nofun }
  | openStarted ch rate n t idle closed fits port budget =>
    exact { h with
      cfgN_fits := fits.1, attempts_fits := Nat.lt_of_le_of_lt budget fits.1, cfgT_fits := fits.2, tmrRem_fits := fits.2
      countdown_bounded := fun _ => Nat.le_refl t, txBuf_bounded := encodeC_length_le _ _ _ }
  | openExhausted ch rate t idle closed fits port =>
    exact { h with
      cfgN_fits := hzero, attempts_fits := hzero, cfgT_fits := fits, countdown_bounded := nofun
      txBuf_bounded := encodeC_length_le _ _ _ }
  | notConnected i idle closed command => exact { h with }
  | sendStarted p idle connected length budget =>
    exact { h.attempt budget (encodeI_length_le length (addr s.par s.role) s.ns) with
      txLen_bounded := (payloadInRange_iff.mp length).2 }
  | sendExhausted p idle connected length budget =>
    exact { h with
      attempts_fits := hzero, countdown_bounded := nofun, txBuf_bounded := encodeI_length_le length _ _
      txLen_bounded := (payloadInRange_iff.mp length).2 }
  | receiveWaits idle connected => exact { h with countdown_bounded := nofun }
  | closeStartedI idle connected role budget =>
    exact { h.attempt budget (encodeC_length_le s.par.aI s.par.cDisc _) with }
  | closeWaitsR idle connected role seen => exact { h with attempts_fits := hzero, countdown_bounded := nofun }
  | closeStartedR idle connected role seen budget =>
    exact { h.attempt budget (encodeC_length_le s.par.aR s.par.cDisc _) with }
  | closeExhausted idle connected path budget =>
    exact { h with attempts_fits := hzero, countdown_bounded := nofun, txBuf_bounded := encodeC_length_le _ _ _ }
  | discarded i frame busy => exact h
  | setAnswered waits => exact { h with attempts_fits := hzero }
  | uaConnects waits => exact { h with attempts_fits := hzero, countdown_bounded := nofun }
  | uaCloses waits => exact { h with countdown_bounded := nofun }
  | discCloses waits => exact { h with countdown_bounded := nofun }
  | discStarts waits budget =>
    have hfirst : s.attempts + 1 ≤ s.cfgN := by rw [hinv.waiting_disc_no_attempt waits]; exact budget
    exact { h.attempt hfirst (encodeC_length_le s.par.aR s.par.cDisc _) with }
  | discExhausted waits budget =>
    exact { h with countdown_bounded := nofun, txBuf_bounded := encodeC_length_le _ _ _ }
  | discEndsReceive waits => exact { h with }
  | delivered b d waits length expected => exact { h with rxBuf_bounded := (payloadInRange_iff.mp length).2 }
  | duplicate b d waits length old => exact { h with }
  | damaged b d x waits length check => exact { h with }
  | acknowledged i waits bit => exact { h with countdown_bounded := nofun }
  | rejectedAgain i waits bit budget => exact { h.attempt budget h.txBuf_bounded with }
  | rejectedSpent i waits bit budget => exact { h with countdown_bounded := nofun }

/-- Every effect of a `TICK` keeps the register bounds. -/
theorem TickEffect.keeps_fits (e : TickEffect s u) (h : Fits s) : Fits u := by
  have hzero : 0 < 2 ^ s.par.wTimer := Nat.two_pow_pos _
  cases e with
  | nothing => exact h
  | counts armed left =>
    exact { h with
      tmrRem_fits := Nat.lt_of_le_of_lt (Nat.sub_le _ _) h.tmrRem_fits
      countdown_bounded := fun ha => Nat.le_trans (Nat.sub_le _ _) (h.countdown_bounded ha) }
  | ranOut idle armed last => exact { h with tmrRem_fits := hzero, countdown_bounded := nofun }
  | retransmitted p waits budget => exact { h.attempt budget h.txBuf_bounded with }
  | openExhausted waits => exact { h with tmrRem_fits := hzero, countdown_bounded := nofun }
  | sendExhausted waits => exact { h with tmrRem_fits := hzero, countdown_bounded := nofun }
  | closeExhausted waits => exact { h with tmrRem_fits := hzero, countdown_bounded := nofun }

/-- Settles O50, with the invariants beside the bounds: that CLOSE as Responder has made no attempt while it waits for the
DISC keeps `ATTEMPTS` within `CFG_N`. -/
theorem stepKeepsTheRegisterBounds : Obligations.StepKeepsTheRegisterBounds := by
  intro s s' hinv h hs
  have hboth : LinkInv s' ∧ Fits s' :=
    step_keeps (P := fun x => LinkInv x ∧ Fits x) (fun i rest h => ⟨h.1.take i rest, { h.2 with }⟩)
      (fun b h => ⟨h.1.parseByte b, { h.2 with }⟩) (fun e h => ⟨e.keeps_linkInv h.1, e.keeps_fits h.1 h.2⟩)
      (fun e h => ⟨e.keeps_linkInv h.1, e.keeps_fits h.2⟩) ⟨hinv, h⟩ hs
  exact hboth.2

/-- Settles O3: reset is in `IDLE` with the timer disarmed, no Connection and a parser that hunts for a frame. -/
theorem resetMeetsTheInvariants : Obligations.ResetMeetsTheInvariants := by
  intro c
  constructor
  · exact .of_idle rfl rfl (by simp [State.reset]) (.of_beforeControl (.inl rfl) rfl)
  · constructor <;> simp [State.reset]

end

/-! ### Who writes the Link Configuration and the sequence bits (R32, R34, R36) -/

section
variable {s u : State}

/-- `ROLE` and the Link Configuration are the same in both states. -/
def SameConfiguration (s u : State) : Prop :=
  u.role = s.role ∧ u.cfgCh = s.cfgCh ∧ u.cfgRate = s.cfgRate ∧ u.cfgN = s.cfgN ∧ u.cfgT = s.cfgT

theorem Effect.par_eq {i : Instr} (e : Effect s i u) : u.par = s.par := by cases e <;> rfl

theorem TickEffect.par_eq (e : TickEffect s u) : u.par = s.par := by cases e <;> rfl

/-- Of the instructions only an accepted OPEN writes the configuration, and it writes its operands. -/
theorem Effect.configuration {i : Instr} (e : Effect s i u) : SameConfiguration s u
    ∨ (s.phase = .idle ∧ s.conn = .closed ∧ i = .openCmd u.role u.cfgCh u.cfgRate u.cfgN u.cfgT) := by
  cases e
  case openFailed idle closed fits port => exact .inr ⟨idle, closed, rfl⟩
  case openWaits idle closed fits port => exact .inr ⟨idle, closed, rfl⟩
  case openStarted idle closed fits port budget => exact .inr ⟨idle, closed, rfl⟩
  case openExhausted idle closed fits port => exact .inr ⟨idle, closed, rfl⟩
  all_goals exact .inl ⟨rfl, rfl, rfl, rfl, rfl⟩

theorem TickEffect.configuration (e : TickEffect s u) : SameConfiguration s u := by
  cases e <;> exact ⟨rfl, rfl, rfl, rfl, rfl⟩

/-- Settles O51: a frame runs outside `IDLE`, so only a command can be the OPEN that writes the configuration. -/
theorem onlyOpenWritesTheConfiguration : Obligations.OnlyOpenWritesTheConfiguration := by
  intro s s' hs
  refine ⟨step_keeps (P := fun x => x.par = s.par) (fun _ _ h => h) (fun _ h => h) (fun e h => e.par_eq.trans h)
    (fun e h => e.par_eq.trans h) rfl hs, ?_⟩
  obtain ⟨-, ⟨-, rfl⟩ | ⟨⟨ev, openOk, closeOk⟩, rest, u, hin, rfl, hstep⟩⟩ := step_effect hs
  · exact .inl ⟨rfl, rfl, rfl, rfl, rfl⟩
  obtain ⟨b, o, c, rfl, -, hdec, e⟩ | ⟨b, c, -, hbusy, -, e⟩ | ⟨b, -, -, rfl⟩ | ⟨-, -, rfl⟩ | ⟨-, e⟩ := hstep
  · obtain h | ⟨hidle, hclosed, rfl⟩ := e.configuration
    · exact .inl h
    · exact .inr ⟨b, o, openOk, closeOk, rest, hin, hidle, hclosed, hdec⟩
  · obtain h | ⟨hidle, -, -⟩ := e.configuration
    · exact .inl h
    · exact absurd hidle hbusy
  · exact .inl ⟨rfl, rfl, rfl, rfl, rfl⟩
  · exact .inl ⟨rfl, rfl, rfl, rfl, rfl⟩
  · exact .inl e.configuration

/-- `NS` is the same, or complemented by a SEND that succeeds, or 0 in a new Connection. -/
def NsMoves (s u : State) : Prop :=
  u.ns = s.ns
    ∨ (s.phase = .sendWaitAck ∧ u.ns = !s.ns ∧ u.out = s.out ++ [.resp (.ok s.txLen)])
    ∨ (u.ns = false ∧ u.conn = .connected ∧ (s.phase = .openIWaitUa ∨ s.phase = .openRWaitSet))

/-- `NR` is the same, or complemented by a RECEIVE that delivers, or 0 in a new Connection. -/
def NrMoves (s u : State) : Prop :=
  u.nr = s.nr
    ∨ (s.phase = .recvWaitI ∧ u.nr = !s.nr ∧ u.out.getLast? = some (.resp (.ok u.rxBuf.length)) ∧ 1 ≤ u.rxBuf.length)
    ∨ (u.nr = false ∧ u.conn = .connected ∧ (s.phase = .openIWaitUa ∨ s.phase = .openRWaitSet))

theorem Effect.nsMoves {i : Instr} (e : Effect s i u) : NsMoves s u := by
  cases e
  case setAnswered waits => exact .inr (.inr ⟨rfl, rfl, .inr waits⟩)
  case uaConnects waits => exact .inr (.inr ⟨rfl, rfl, .inl waits⟩)
  case acknowledged waits bit => exact .inr (.inl ⟨waits, rfl, rfl⟩)
  all_goals exact .inl rfl

theorem Effect.nrMoves {i : Instr} (e : Effect s i u) : NrMoves s u := by
  cases e
  case setAnswered waits => exact .inr (.inr ⟨rfl, rfl, .inr waits⟩)
  case uaConnects waits => exact .inr (.inr ⟨rfl, rfl, .inl waits⟩)
  case delivered d waits length expected =>
    exact .inr (.inl ⟨waits, rfl, by simp, (payloadInRange_iff.mp length).1⟩)
  all_goals exact .inl rfl

theorem TickEffect.nsMoves (e : TickEffect s u) : NsMoves s u := by cases e <;> exact .inl rfl

theorem TickEffect.nrMoves (e : TickEffect s u) : NrMoves s u := by cases e <;> exact .inl rfl

/-- Settles O52: taking the input and the parser step write neither bit, and neither `PHASE` nor `TXLEN`. -/
theorem sequenceBitsMoveOnlyOnSuccess : Obligations.SequenceBitsMoveOnlyOnSuccess := by
  intro s s' hs
  show NsMoves s s' ∧ NrMoves s s'
  obtain ⟨-, ⟨-, rfl⟩ | ⟨i, rest, u, -, rfl, hstep⟩⟩ := step_effect hs
  · exact ⟨.inl rfl, .inl rfl⟩
  obtain ⟨b, o, c, -, -, -, e⟩ | ⟨b, c, -, -, -, e⟩ | ⟨b, -, -, rfl⟩ | ⟨-, -, rfl⟩ | ⟨-, e⟩ := hstep
  · exact ⟨e.nsMoves, e.nrMoves⟩
  · exact ⟨e.nsMoves, e.nrMoves⟩
  · exact ⟨.inl rfl, .inl rfl⟩
  · exact ⟨.inl rfl, .inl rfl⟩
  · exact ⟨e.nsMoves, e.nrMoves⟩

end

/-! ### Registers that hold no value (R45) -/

section
variable {s t : State}

theorem AgreeOnWritten.refl (s : State) : AgreeOnWritten s s :=
  ⟨rfl, fun _ => ⟨rfl, rfl, rfl, rfl, rfl⟩, fun _ _ _ => rfl⟩

theorem AgreeOnWritten.conn_eq (h : AgreeOnWritten s t) : t.conn = s.conn := by rw [← h.1]

theorem AgreeOnWritten.phase_eq (h : AgreeOnWritten s t) : t.phase = s.phase := by rw [← h.1]

theorem AgreeOnWritten.par_eq (h : AgreeOnWritten s t) : t.par = s.par := by rw [← h.1]

theorem AgreeOnWritten.input_eq (h : AgreeOnWritten s t) : t.input = s.input := by rw [← h.1]

theorem AgreeOnWritten.take (h : AgreeOnWritten s t) (i : Input) (rest : List Input) :
    AgreeOnWritten (s.take i rest) (t.take i rest) :=
  ⟨congrArg (State.take · i rest) h.1, h.2⟩

/-- `s` with another value in `P_CTRL`. -/
def State.withCtrl (s : State) (k : Byte) : State := { s with pCtrl := k }

theorem agree_withCtrl (hq : BeforeControl s.pState) (k : Byte) : AgreeOnWritten s (s.withCtrl k) := by
  refine ⟨rfl, fun _ => ⟨rfl, rfl, rfl, rfl, rfl⟩, fun h1 h2 h3 => ?_⟩
  obtain hq | hq | hq := hq
  · exact absurd hq h1
  · exact absurd hq h2
  · exact absurd hq h3

/-- With a Connection or an operation, two states that agree are equal or differ in a `P_CTRL` not yet written. -/
theorem AgreeOnWritten.eq_or_withCtrl (h : AgreeOnWritten s t) (hw : s.conn = .connected ∨ s.phase ≠ .idle) :
    t = s ∨ (BeforeControl s.pState ∧ ∃ k, t = s.withCtrl k) := by
  obtain ⟨ht, hcfg, hctrl⟩ := h
  obtain ⟨hrole, hch, hrate, hn, htime⟩ := hcfg hw
  have hst : t = s.withCtrl t.pCtrl := by
    rw [← hrole, ← hch, ← hrate, ← hn, ← htime] at ht
    exact ht.symm
  by_cases hq : BeforeControl s.pState
  · exact .inr ⟨hq, t.pCtrl, hst⟩
  · simp only [BeforeControl, not_or] at hq
    obtain ⟨hidle, hflag, haddr⟩ := hq
    rw [← hctrl hidle hflag haddr] at hst
    exact .inl hst

/-- An operation that neither reads nor writes `P_CTRL`, and leaves `PSTATE` or returns it to `P_IDLE`, keeps the
agreement of two states with a Connection or an operation. -/
theorem AgreeOnWritten.map {f : State → State} (h : AgreeOnWritten s t) (hw : s.conn = .connected ∨ s.phase ≠ .idle)
    (hf : ∀ x k, f (State.withCtrl x k) = (f x).withCtrl k) (hq : (f s).pState = s.pState ∨ (f s).pState = .idle) :
    AgreeOnWritten (f s) (f t) := by
  obtain rfl | ⟨hs, k, rfl⟩ := h.eq_or_withCtrl hw
  · exact .refl _
  · rw [hf]
    refine agree_withCtrl ?_ k
    obtain hq | hq := hq
    · exact hq ▸ hs
    · exact .inl hq

theorem TickEffect.pState_eq (e : TickEffect s t) : t.pState = s.pState := by cases e <;> rfl

/-! ### What the operations do with `P_CTRL`: nothing -/

variable (s) (k : Byte)

theorem exhausted_withCtrl (p : TimedPhase) : (s.withCtrl k).exhausted p = (s.exhausted p).withCtrl k := by
  cases p <;> rfl

theorem beginAttempts_withCtrl (p : TimedPhase) :
    (s.withCtrl k).beginAttempts p = (s.beginAttempts p).withCtrl k := by
  rcases Nat.eq_zero_or_pos s.cfgN with hn | hn
  · rw [beginAttempts_zero s p hn, beginAttempts_zero (s.withCtrl k) p hn]
    exact exhausted_withCtrl { s with phase := p.phase } k p
  · rw [beginAttempts_pos s p hn, beginAttempts_pos (s.withCtrl k) p hn]
    rfl

theorem beginAttempts_pState (p : TimedPhase) : (s.beginAttempts p).pState = s.pState := by
  rcases Nat.eq_zero_or_pos s.cfgN with hn | hn
  · rw [beginAttempts_zero s p hn]
    cases p <;> rfl
  · rw [beginAttempts_pos s p hn]

theorem sendAccepted_withCtrl (p : Bytes) : (s.withCtrl k).sendAccepted p = (s.sendAccepted p).withCtrl k :=
  beginAttempts_withCtrl (State.startOperation { s with txLen := p.length, txBuf := s.infoFrame p, attempts := 0 }) k
    .send

theorem sendAccepted_pState (p : Bytes) : (s.sendAccepted p).pState = .idle := beginAttempts_pState _ .send

theorem openInitiator_withCtrl : (s.withCtrl k).openInitiator = s.openInitiator.withCtrl k :=
  beginAttempts_withCtrl { s with txBuf := encodeC s.par.aI s.par.cSet } k .openI

theorem closeInitiator_withCtrl : (s.withCtrl k).closeInitiator = s.closeInitiator.withCtrl k :=
  beginAttempts_withCtrl { s with txBuf := encodeC s.par.aI s.par.cDisc } k .closeI

theorem responderDisc_withCtrl : (s.withCtrl k).responderDisc = s.responderDisc.withCtrl k :=
  beginAttempts_withCtrl { s with txBuf := encodeC s.par.aR s.par.cDisc } k .closeR

theorem closeResponder_withCtrl : (s.withCtrl k).closeResponder = s.closeResponder.withCtrl k := by
  unfold State.closeResponder
  rw [apply_ite (State.withCtrl · k)]
  exact if_congr Iff.rfl (responderDisc_withCtrl { s with discSeen := false } k) rfl

theorem closeResponder_pState : s.closeResponder.pState = s.pState := by
  unfold State.closeResponder
  split
  · exact beginAttempts_pState _ .closeR
  · rfl

/-- CLOSE by the role it reads. -/
theorem closeAccepted_eq : s.closeAccepted =
    if s.role = .initiator then (State.startOperation { s with attempts := 0 }).closeInitiator
    else (State.startOperation { s with attempts := 0 }).closeResponder := by
  unfold State.closeAccepted
  cases s.role <;> rfl

theorem closeAccepted_withCtrl : (s.withCtrl k).closeAccepted = s.closeAccepted.withCtrl k := by
  rw [closeAccepted_eq, closeAccepted_eq, apply_ite (State.withCtrl · k)]
  exact if_congr Iff.rfl (closeInitiator_withCtrl (State.startOperation { s with attempts := 0 }) k)
    (closeResponder_withCtrl (State.startOperation { s with attempts := 0 }) k)

theorem closeAccepted_pState : s.closeAccepted.pState = .idle := by
  rw [closeAccepted_eq]
  split
  · exact beginAttempts_pState _ .closeI
  · exact closeResponder_pState _

/-- OPEN from its call of the port on, by the port's answer and the role. -/
theorem openPort_eq : s.openPort =
    if s.openOk then
      if s.role = .initiator then
        State.openInitiator { s.emit (.portOpen s.cfgCh s.cfgRate) with portOpen := true }
      else { s.emit (.portOpen s.cfgCh s.cfgRate) with portOpen := true, phase := .openRWaitSet }
    else (s.emit (.portOpen s.cfgCh s.cfgRate)).fail .channelUnavailable := by
  unfold State.openPort
  cases s.role <;> rfl

theorem openPort_withCtrl : (s.withCtrl k).openPort = s.openPort.withCtrl k := by
  rw [openPort_eq, openPort_eq, apply_ite (State.withCtrl · k), apply_ite (State.withCtrl · k)]
  exact if_congr Iff.rfl (if_congr Iff.rfl
    (openInitiator_withCtrl { s.emit (.portOpen s.cfgCh s.cfgRate) with portOpen := true } k) rfl) rfl

theorem openPort_pState : s.openPort.pState = s.pState := by
  rw [openPort_eq]
  split
  · split
    · exact beginAttempts_pState _ .openI
    · rfl
  · rfl

theorem tick_withCtrl : (s.withCtrl k).tick = s.tick.withCtrl k := by
  rw [tick_eq, tick_eq]
  rfl

theorem onTimeout_withCtrl (p : TimedPhase) : (s.withCtrl k).onTimeout p = (s.onTimeout p).withCtrl k := by
  simp only [State.onTimeout]
  rw [apply_ite (State.withCtrl · k)]
  exact if_congr Iff.rfl rfl (exhausted_withCtrl s k p)

theorem onTick_withCtrl : (s.withCtrl k).onTick = s.onTick.withCtrl k := by
  have hphase : (s.withCtrl k).phase = s.phase := rfl
  simp only [State.onTick, hphase, tick_withCtrl, onTimeout_withCtrl]
  cases s.phase.timed? with
  | none => exact (apply_ite (State.withCtrl · k) ..).symm
  | some p => exact (apply_ite (State.withCtrl · k) ..).symm

end

/-! ### Outcomes that cannot be told apart -/

section
variable {s t : State}

theorem sameOutcome_self (x : Outcome) : SameOutcome AgreeOnWritten x x := by
  cases x with
  | next a => exact AgreeOnWritten.refl a
  | fault r => exact nomatch r
  | refused r => rfl

theorem sameOutcome_ite {P : Prop} [Decidable P] {R : State → State → Prop} {a a' b b' : Outcome}
    (ht : P → SameOutcome R a b) (hf : ¬P → SameOutcome R a' b') :
    SameOutcome R (if P then a else a') (if P then b else b') := by
  split
  · exact ht ‹_›
  · exact hf ‹_›

theorem informationFrame_idle (hph : s.phase = .idle) (b : Bit) (d : Bytes) (x : Byte) :
    informationFrame b d x s = .refused .portReadWhileIdle := by simp [informationFrame, hph]

theorem acknowledgement_idle (hph : s.phase = .idle) (f : State → State) :
    acknowledgement f s = .refused .portReadWhileIdle := by simp [acknowledgement, hph]

theorem exec_frame_idle {c : Instr} (hc : c.frameType? ≠ none) (hph : s.phase = .idle) :
    exec c s = .refused .portReadWhileIdle := by
  cases c with
  | set => simp [exec, execSet, hph]
  | ua => simp [exec, execUa, hph]
  | disc => simp [exec, execDisc, hph]
  | i0 d x => exact informationFrame_idle hph false d x
  | i1 d x => exact informationFrame_idle hph true d x
  | rr0 => exact acknowledgement_idle hph _
  | rr1 => exact acknowledgement_idle hph _
  | rej0 => exact acknowledgement_idle hph _
  | rej1 => exact acknowledgement_idle hph _
  | _ => exact absurd rfl hc

theorem AgreeOnWritten.respond (h : AgreeOnWritten s t) (hc : s.conn = .closed) (r : Result) :
    AgreeOnWritten (s.respond r) (t.respond r) := by
  refine ⟨congrArg (State.respond · r) h.1, fun hw => ?_, h.2.2⟩
  obtain hw | hw := hw
  · exact absurd (hc.symm.trans hw) (by decide)
  · exact absurd rfl hw

theorem AgreeOnWritten.tick (h : AgreeOnWritten s t) : AgreeOnWritten s.tick t.tick := by
  have ht := congrArg State.tick h.1
  rw [tick_eq, tick_eq t] at ht
  rw [tick_eq s, tick_eq t]
  exact ⟨ht, h.2⟩

/-- The latched operands replace the configuration, so only `P_CTRL` can still differ, behind a parser that hunts. -/
theorem AgreeOnWritten.openAccepted (h : AgreeOnWritten s t) (r : Role) (ch rate n tm : Nat) :
    AgreeOnWritten (s.latchOpen r ch rate n tm).openPort (t.latchOpen r ch rate n tm).openPort := by
  have hlatch : (s.latchOpen r ch rate n tm).withCtrl t.pCtrl = t.latchOpen r ch rate n tm :=
    congrArg (State.latchOpen · r ch rate n tm) h.1
  rw [← hlatch, openPort_withCtrl]
  exact agree_withCtrl (.inl (openPort_pState _)) _

/-- A command whose refusals look at no register without a value, and that answers `NOT_CONNECTED` or runs `f`. -/
theorem AgreeOnWritten.onConnection {f : State → State} (h : AgreeOnWritten s t)
    (hf : ∀ x k, f (State.withCtrl x k) = (f x).withCtrl k) (hq : (f s).pState = .idle) :
    SameOutcome AgreeOnWritten
      (if s.conn = .closed then .next (s.respond (.err .notConnected)) else .next (f s))
      (if t.conn = .closed then .next (t.respond (.err .notConnected)) else .next (f t)) := by
  rw [h.conn_eq]
  refine sameOutcome_ite (fun hc => h.respond hc _) fun hc => ?_
  have hconn : s.conn = .connected := by cases hs : s.conn <;> simp_all
  exact h.map (.inl hconn) hf (.inr hq)

theorem AgreeOnWritten.execOpen (h : AgreeOnWritten s t) (r : Role) (ch rate n tm : Nat) :
    SameOutcome AgreeOnWritten (execOpen r ch rate n tm s) (execOpen r ch rate n tm t) := by
  have hfits : openOperandsOk t n tm = openOperandsOk s n tm := by rw [openOperandsOk, h.par_eq]; rfl
  unfold Machine.execOpen
  rw [h.phase_eq, h.conn_eq, hfits]
  refine sameOutcome_ite (fun _ => rfl) fun _ => sameOutcome_ite (fun _ => rfl) fun _ => ?_
  exact sameOutcome_ite (fun _ => h.openAccepted r ch rate n tm) fun _ => rfl

theorem AgreeOnWritten.execSend (h : AgreeOnWritten s t) (p : Bytes) :
    SameOutcome AgreeOnWritten (execSend p s) (execSend p t) := by
  have hlength : sendLengthOk t p = sendLengthOk s p := by rw [sendLengthOk, h.par_eq]; rfl
  unfold Machine.execSend
  rw [h.phase_eq, hlength]
  refine sameOutcome_ite (fun _ => rfl) fun _ => sameOutcome_ite (fun _ => ?_) fun _ => rfl
  exact h.onConnection (f := (State.sendAccepted · p)) (fun x k => sendAccepted_withCtrl x k p)
    (sendAccepted_pState s p)

theorem AgreeOnWritten.execReceive (h : AgreeOnWritten s t) :
    SameOutcome AgreeOnWritten (execReceive s) (execReceive t) := by
  unfold Machine.execReceive
  rw [h.phase_eq]
  exact sameOutcome_ite (fun _ => rfl) fun _ => h.onConnection (fun _ _ => rfl) rfl

theorem AgreeOnWritten.execClose (h : AgreeOnWritten s t) :
    SameOutcome AgreeOnWritten (execClose s) (execClose t) := by
  unfold Machine.execClose
  rw [h.phase_eq]
  exact sameOutcome_ite (fun _ => rfl) fun _ => h.onConnection closeAccepted_withCtrl (closeAccepted_pState s)

/-- With no operation in progress every instruction has outcomes that cannot be told apart. -/
theorem AgreeOnWritten.exec_idle (h : AgreeOnWritten s t) (hph : s.phase = .idle) (c : Instr) :
    SameOutcome AgreeOnWritten (exec c s) (exec c t) := by
  by_cases hframe : c.frameType? ≠ none
  · rw [exec_frame_idle hframe hph, exec_frame_idle hframe (h.phase_eq.trans hph)]
    rfl
  cases c with
  | openCmd r ch rate n tm => exact h.execOpen r ch rate n tm
  | sendCmd p => exact h.execSend p
  | receiveCmd => exact h.execReceive
  | closeCmd => exact h.execClose
  | _ => exact absurd nofun hframe

/-! ### The parser before the control byte -/

section
variable {c : Config} {p : Parser} {ea b : Byte}

theorem parse_completes_no_frame (hq : BeforeControl p.pState) : (p.parse c ea b).2.instr c = none := by
  unfold Parser.parse
  obtain ⟨q, pCtrl, acc⟩ := p
  obtain rfl | rfl | rfl := hq <;> dsimp only
  · split <;> rfl
  · split
    · rfl
    · split <;> rfl
  · split
    · rfl
    · split <;> rfl

/-- Before the control byte the parser keeps `P_CTRL` without reading it, or writes it. -/
theorem parse_ctrl_unread (hq : BeforeControl p.pState) (k : Byte) :
    (BeforeControl (p.parse c ea b).1.pState
        ∧ (Parser.parse c ea { p with pCtrl := k } b).1 = { (p.parse c ea b).1 with pCtrl := k })
      ∨ (Parser.parse c ea { p with pCtrl := k } b).1 = (p.parse c ea b).1 := by
  unfold Parser.parse
  obtain ⟨q, pCtrl, acc⟩ := p
  obtain rfl | rfl | rfl := hq <;> dsimp only
  · split
    · exact .inl ⟨.inr (.inl rfl), rfl⟩
    · exact .inl ⟨.inl rfl, rfl⟩
  · split
    · exact .inl ⟨.inr (.inl rfl), rfl⟩
    · split
      · exact .inl ⟨.inr (.inr rfl), rfl⟩
      · exact .inl ⟨.inl rfl, rfl⟩
  · split
    · exact .inl ⟨.inr (.inl rfl), rfl⟩
    · split
      · exact .inr rfl
      · exact .inl ⟨.inl rfl, rfl⟩

end

theorem onByte_without_frame {b : Byte} (hph : s.phase ≠ .idle) (hb : (s.parseByte b).2.instr s.par = none) :
    onByte b s = .next (s.setParser (s.parseByte b).1) := by
  rw [onByte, if_neg hph, hb]

/-! ### The events -/

theorem AgreeOnWritten.onCommand (h : AgreeOnWritten s t) (b : Byte) (o : Operands) :
    SameOutcome AgreeOnWritten (onCommand b o s) (onCommand b o t) := by
  unfold Machine.onCommand
  rw [h.phase_eq]
  refine sameOutcome_ite (fun _ => rfl) fun hph => ?_
  cases decodeCommand b o with
  | ok c => exact h.exec_idle (not_not.mp hph) c
  | error e => rfl

/-- A `P_CTRL` that may differ stands behind a parser that no byte makes complete a frame. -/
theorem AgreeOnWritten.onByte (h : AgreeOnWritten s t) (b : Byte) :
    SameOutcome AgreeOnWritten (onByte b s) (onByte b t) := by
  by_cases hph : s.phase = .idle
  · have hpht : t.phase = .idle := h.phase_eq.trans hph
    rw [Machine.onByte, Machine.onByte, if_pos hph, if_pos hpht]
    rfl
  obtain rfl | ⟨hq, k, rfl⟩ := h.eq_or_withCtrl (.inr hph)
  · exact sameOutcome_self _
  rw [onByte_without_frame hph (parse_completes_no_frame hq),
    onByte_without_frame (s := s.withCtrl k) hph (parse_completes_no_frame hq)]
  show AgreeOnWritten (s.setParser (s.parseByte b).1)
    (s.setParser (Parser.parse s.par s.peerAddr { s.parser with pCtrl := k } b).1)
  obtain ⟨hq', hp⟩ | hp := parse_ctrl_unread (p := s.parser) hq k
  · rw [hp]
    exact agree_withCtrl hq' k
  · rw [hp]
    exact .refl _

theorem AgreeOnWritten.onNoByte (h : AgreeOnWritten s t) :
    SameOutcome AgreeOnWritten (onNoByte s) (onNoByte t) := by
  unfold Machine.onNoByte
  rw [h.phase_eq]
  exact sameOutcome_ite (fun _ => rfl) fun _ => h

theorem AgreeOnWritten.onTick (h : AgreeOnWritten s t) : AgreeOnWritten s.onTick t.onTick := by
  by_cases hph : s.phase = .idle
  · have hpht : t.phase = .idle := h.phase_eq.trans hph
    simpa [State.onTick, hph, hpht, Phase.timed?] using h.tick
  · exact h.map (.inr hph) onTick_withCtrl (.inl (onTick_effect s).pState_eq)

theorem AgreeOnWritten.onEvent (h : AgreeOnWritten s t) (e : Event) :
    SameOutcome AgreeOnWritten (onEvent e s) (onEvent e t) := by
  cases e with
  | cmd b o => exact h.onCommand b o
  | byte b => exact h.onByte b
  | noByte => exact h.onNoByte
  | tick => exact h.onTick

/-- Settles O56: two states that agree take the same input, and every event has outcomes that cannot be told apart. -/
theorem stepCannotTellUnwrittenRegisters : Obligations.StepCannotTellUnwrittenRegisters := by
  intro s t h
  cases hp : paramsOk s.par with
  | false =>
    have hpt : paramsOk t.par = false := by rw [h.par_eq, hp]
    rw [step_badParameters hp, step_badParameters hpt]
    rfl
  | true =>
    have hpt : paramsOk t.par = true := by rw [h.par_eq, hp]
    cases hi : s.input with
    | nil =>
      rw [step_nil hp hi, step_nil hpt (h.input_eq.trans hi)]
      exact h
    | cons i rest =>
      rw [step_cons hp hi, step_cons hpt (h.input_eq.trans hi)]
      exact (h.take i rest).onEvent i.event

end

end Sys2Proof.Machine
end

section
/-! PROOF. The statements of 30_encoding.md: control and command bytes (R99, R100, R110), decoding what was encoded (R91,
R92), and what a step answers (R111) and transmits (R93, R102). -/

namespace Sys2Proof.Machine

/-! ### Control bytes (R99, R100) -/

section
variable {c : Config}

theorem frameTypeOf_eq_some_iff (h : paramsOk c = true) {b : Byte} {f : FrameType} :
    frameTypeOf c b = some f ↔ b = control c f := by
  constructor
  · exact control_of_frameTypeOf
  · rintro rfl
    exact frameTypeOf_control h f

/-- Settles O12: the lookup inverts the table, whose nine values differ. -/
theorem controlByteSelectsTheFrameType : Obligations.ControlByteSelectsTheFrameType := by
  intro c h
  refine ⟨fun b f => frameTypeOf_eq_some_iff h, fun b => ?_⟩
  simp only [Option.eq_none_iff_forall_ne_some, ne_eq, frameTypeOf_eq_some_iff h]

/-! ### Command bytes (R110) -/

theorem decodeCommand_openByte (r : Role) (o : Operands) :
    decodeCommand (openByte r) o = .ok (.openCmd r o.channelId o.bitRate o.maxRetransmissions o.timeout) := by
  cases r <;> rfl

theorem decodeCommand_send (o : Operands) : decodeCommand 0x01#8 o = .ok (.sendCmd o.payload) := rfl

theorem decodeCommand_receive (o : Operands) : decodeCommand 0x02#8 o = .ok .receiveCmd := rfl

theorem decodeCommand_close (o : Operands) : decodeCommand 0x03#8 o = .ok .closeCmd := rfl

/-- A byte above 4 has a reserved bit set, or names a role beside an operation other than OPEN. -/
theorem reserved_or_role_of_four_lt {b : Byte} (h : 4 < b.toNat) :
    reservedField b ≠ 0 ∨ (opField b ≠ 0 ∧ roleField b = true) := by
  rcases Nat.lt_or_ge b.toNat 8 with hb | hb
  · have hsmall : b = 5#8 ∨ b = 6#8 ∨ b = 7#8 := by bv_omega
    right
    obtain rfl | rfl | rfl := hsmall <;> decide
  · left
    intro h0
    have hfield : b.toNat / 8 % 32 = 0 := by
      simpa [reservedField, Nat.shiftRight_eq_div_pow] using congrArg BitVec.toNat h0
    omega

theorem decodeCommand_error_of_four_lt {b : Byte} (h : 4 < b.toNat) (o : Operands) :
    ∃ e, decodeCommand b o = .error e := by
  unfold decodeCommand
  split
  · exact ⟨_, rfl⟩
  · rename_i hr
    obtain hne | ⟨hop, hrole⟩ := reserved_or_role_of_four_lt h
    · exact absurd hne hr
    · rw [if_neg hop, if_pos hrole]
      exact ⟨_, rfl⟩

/-- Settles O13: bytes 0 to 4 are `openByte` of either role and the other three commands; a byte above 4
fails one of R110's two checks. -/
theorem commandByteSpellsTheCommand : Obligations.CommandByteSpellsTheCommand := fun o =>
  ⟨decodeCommand_openByte .initiator o, decodeCommand_openByte .responder o, decodeCommand_send o,
    decodeCommand_receive o, decodeCommand_close o, fun _ h => decodeCommand_error_of_four_lt h o⟩

/-! ### Decoding what was encoded -/

/-- An instruction with no frame type is a command, and its command byte spells it. -/
theorem encode_command {i : Instr} (hi : i.frameType? = none) (c : Config) (r : Role) :
    ∃ b o, encode c r i = .command b o ∧ decodeCommand b o = .ok i := by
  cases i with
  | openCmd r' ch rate n t => exact ⟨_, _, rfl, decodeCommand_openByte r' _⟩
  | sendCmd p => exact ⟨_, _, rfl, decodeCommand_send _⟩
  | receiveCmd => exact ⟨_, _, rfl, decodeCommand_receive _⟩
  | closeCmd => exact ⟨_, _, rfl, decodeCommand_close _⟩
  | _ => cases hi

/-- A frame is the control frame of its type, or an Information frame. -/
theorem frame_cases {i : Instr} {f : FrameType} (hi : i.frameType? = some f) :
    controlInstr f = some i ∨ ∃ b d x, i = infoInstr b d x ∧ f = infoType b := by
  cases i with
  | i0 d x => cases hi; exact .inr ⟨false, d, x, rfl, rfl⟩
  | i1 d x => cases hi; exact .inr ⟨true, d, x, rfl, rfl⟩
  | openCmd r ch rate n t => cases hi
  | sendCmd p => cases hi
  | receiveCmd => cases hi
  | closeCmd => cases hi
  | _ => cases hi; exact .inl rfl

theorem encode_control {f : FrameType} {i : Instr} (hi : controlInstr f = some i) (c : Config) (r : Role) :
    encode c r i = .frame (encodeC (addr c r) (control c f)) := by
  cases f <;> cases hi <;> rfl

theorem encode_infoInstr (c : Config) (r : Role) (b : Bit) (d : Bytes) (x : Byte) :
    encode c r (infoInstr b d x) = .frame (infoFrame (addr c r) (cI c b) d x) := by
  cases b <;> rfl

theorem infoInstr_wf (c : Config) (b : Bit) (d : Bytes) (x : Byte) :
    (infoInstr b d x).wf c = payloadInRange c d := by
  cases b <;> rfl

/-- Settles O15: a command by its byte, a control frame and an Information frame by a run of the parser over the bytes. -/
theorem decodeInvertsEncode : Obligations.DecodeInvertsEncode := by
  intro c r i h hwf
  cases hi : i.frameType? with
  | none =>
    obtain ⟨b, o, henc, hdec⟩ := encode_command hi c r
    rw [henc]
    exact hdec
  | some f =>
    obtain hctrl | ⟨b, d, x, rfl, -⟩ := frame_cases hi
    · rw [encode_control hctrl]
      exact decode_controlFrame h r hctrl
    · rw [infoInstr_wf] at hwf
      rw [encode_infoInstr]
      exact decode_infoFrame h r b d x hwf

/-- Settles O7: the bytes of R91, R92 and R110 under the default parameters, run through the decoder. -/
theorem writtenWordsDecode : Obligations.WrittenWordsDecode := by
  unfold Obligations.WrittenWordsDecode
  decide

/-! ### What the decoder reads (R92) -/

/-- A frame whose data field has a length that the parser lets through (40_frame_codec.md R146, R148). -/
def IsParsedFrame (c : Config) (i : Instr) : Prop := i.frameType? ≠ none ∧ i.wf c = true

theorem isParsedFrame_info {d : Bytes} (hd : payloadInRange c d = true) (b : Bit) (x : Byte) :
    IsParsedFrame c (infoInstr b d x) :=
  ⟨infoInstr_frame b d x, by rw [infoInstr_wf, hd]⟩

theorem isParsedFrame_control {f : FrameType} {i : Instr} (hi : controlInstr f = some i) : IsParsedFrame c i := by
  cases f <;> cases hi <;> exact ⟨nofun, rfl⟩

/-- A data field of at most `MAX_PAYLOAD` + 1 bytes closes to a payload of legal length or to no frame. -/
theorem closeFrame_isParsedFrame {p : Parser} {i : Instr} (hlen : p.acc.length ≤ c.maxPayload + 1)
    (hi : (p.closeFrame c).2.instr c = some i) : IsParsedFrame c i := by
  unfold Parser.closeFrame at hi
  cases hacc : p.acc.getLast? with
  | none => simp [hacc, ParserEvent.instr] at hi
  | some x =>
    simp only [hacc] at hi
    split at hi
    · cases hi
    · rename_i hne
      have hrange : payloadInRange c p.acc.dropLast = true := by
        rw [payloadInRange_iff, List.length_dropLast]
        rw [List.isEmpty_iff_length_eq_zero, List.length_dropLast] at hne
        omega
      split at hi <;> cases hi <;> exact isParsedFrame_info hrange _ _

theorem append_completes_no_frame (p : Parser) (d : Byte) : (p.append c d).2.instr c = none := by
  unfold Parser.append
  split <;> rfl

/-- A byte that completes a frame closes a control frame, or a data field of a legal length. -/
theorem parse_isParsedFrame {p : Parser} (h : ParserInv c p) {ea b : Byte} {i : Instr}
    (hi : (p.parse c ea b).2.instr c = some i) : IsParsedFrame c i := by
  by_cases hq : BeforeControl p.pState
  · rw [parse_completes_no_frame hq] at hi
    cases hi
  unfold Parser.parse at hi
  cases hs : p.pState with
  | idle => exact absurd (.inl hs) hq
  | gotFlag => exact absurd (.inr (.inl hs)) hq
  | gotAddr => exact absurd (.inr (.inr hs)) hq
  | gotCtrl =>
    simp only [hs] at hi
    split at hi
    · cases hi
    · split at hi
      · split at hi <;> cases hi
      · cases hi
  | gotBcc1 =>
    simp only [hs] at hi
    split at hi
    · obtain ⟨f, -, hf⟩ := Option.bind_eq_some_iff.mp hi
      exact isParsedFrame_control hf
    · cases hi
  | data =>
    simp only [hs] at hi
    split at hi
    · exact closeFrame_isParsedFrame h.acc_bounded hi
    · split at hi
      · cases hi
      · rw [append_completes_no_frame] at hi
        cases hi
  | esc =>
    simp only [hs] at hi
    split at hi
    · cases hi
    · rw [append_completes_no_frame] at hi
      cases hi

/-- What the scan reads is what one of the parser's events stands for. -/
theorem scanFrame_isParsedFrame {ea : Byte} {bs : Bytes} {p : Parser} {i : Instr} (h : ParserInv c p)
    (hi : scanFrame c ea p bs = .ok i) : IsParsedFrame c i := by
  induction bs generalizing p with
  | nil => cases hi
  | cons b bs ih =>
    unfold scanFrame at hi
    have hinv := parse_keeps_parserInv h ea b
    have hevent := fun i => parse_isParsedFrame h (ea := ea) (b := b) (i := i)
    split at hi
    · rename_i p' hp
      rw [hp] at hinv
      exact ih hinv hi
    · cases hi
    · rename_i p' e hp
      rw [hp] at hevent
      split at hi
      · split at hi
        · rename_i j hj
          cases hi
          exact hevent _ hj
        · cases hi
      · cases hi

theorem decodeFrame_isParsedFrame {ea : Byte} {bs : Bytes} {i : Instr} (hi : decodeFrame c ea bs = .ok i) :
    IsParsedFrame c i :=
  scanFrame_isParsedFrame (.of_beforeControl (.inl rfl) rfl) hi

theorem decodeCommand_frameType {b : Byte} {o : Operands} {i : Instr} (hi : decodeCommand b o = .ok i) :
    i.frameType? = none := by
  unfold decodeCommand at hi
  repeat' split at hi
  all_goals cases hi
  all_goals rfl

/-- A table word reads as a command, or as a frame that the parser lets through. -/
theorem tableInstr_cases {nbits w : Nat} {i : Instr} (hi : tableInstr c nbits w = some i) :
    i.frameType? = none ∨ IsParsedFrame c i := by
  unfold tableInstr at hi
  split at hi
  · dsimp only at hi
    split at hi
    · rename_i hd
      cases hi
      exact .inr (decodeFrame_isParsedFrame hd)
    · split at hi
      · rename_i hd
        cases hi
        exact .inr (decodeFrame_isParsedFrame hd)
      · split at hi
        · rename_i hd
          cases hi
          exact .inl (decodeCommand_frameType hd)
        · cases hi
  · cases hi

end

/-! ### The placed word (log 14) -/

section
variable {s : State} {i : Instr}

theorem exec_command_busy (hi : i.frameType? = none) (hph : s.phase ≠ .idle) :
    exec i s = .refused .commandPending := by
  cases i with
  | openCmd r ch rate n t => exact if_pos hph
  | sendCmd p => exact if_pos hph
  | receiveCmd => exact if_pos hph
  | closeCmd => exact if_pos hph
  | _ => cases hi

/-- A command event runs the command its byte spells, which a pending operation refuses as the event does. -/
theorem onCommand_eq_exec {b : Byte} {o : Operands} (hd : decodeCommand b o = .ok i) : onCommand b o s = exec i s := by
  by_cases hph : s.phase = .idle
  · exact onCommand_of_decodeCommand hph hd
  · rw [exec_command_busy (decodeCommand_frameType hd) hph]
    exact if_pos hph

theorem step_command {e : Input} {rest : List Input} {b : Byte} {o : Operands} (hp : paramsOk s.par = true)
    (hin : s.input = e :: rest) (he : e.event = .cmd b o) (hd : decodeCommand b o = .ok i) :
    step s = exec i (s.take e rest) := by
  rw [step_cons hp hin, he]
  exact onCommand_eq_exec hd

theorem step_place_command (hp : paramsOk s.par = true) (hi : i.frameType? = none) :
    step (s.place i) = exec i { s with openOk := true, closeOk := true } := by
  obtain ⟨b, o, henc, hdec⟩ := encode_command hi s.par s.role
  have hplace : s.place i = { s with input := Input.ofEvent (.cmd b o) :: s.input } := by
    simp only [State.place, hi, henc]
  rw [hplace]
  exact step_command (e := .ofEvent (.cmd b o)) (rest := s.input) hp rfl rfl hdec

/-- The closing FLAG behind the rest of a frame completes that frame. -/
theorem parse_last {c : Config} (h : paramsOk c = true) {f : FrameType} (hi : i.frameType? = some f)
    (hwf : i.wf c = true) (ea : Byte) :
    ∃ e, Parser.parse c ea { pState := lastPState f, pCtrl := control c f, acc := dataField i } FLAG
        = ({ pState := .idle, pCtrl := control c f, acc := [] }, e)
      ∧ e.instr c = some i := by
  obtain hctrl | ⟨b, d, x, rfl, rfl⟩ := frame_cases hi
  · have hlast : lastPState f = .gotBcc1 := by cases f <;> cases hctrl <;> rfl
    have hacc : dataField i = [] := by cases f <;> cases hctrl <;> rfl
    rw [hlast, hacc]
    refine ⟨.ctrl (control c f), rfl, ?_⟩
    simp [ParserEvent.instr, frameTypeOf_control h, hctrl]
  · have hlast : lastPState (infoType b) = .data := by cases b <;> rfl
    have hacc : dataField (infoInstr b d x) = d ++ [x] := by cases b <;> rfl
    have hne : d ≠ [] := by
      rintro rfl
      rw [infoInstr_wf] at hwf
      cases hwf
    rw [hlast, hacc]
    refine ⟨_, parse_close rfl rfl hne, ?_⟩
    rw [seqBit_cI h (b := b) rfl]
    split
    · rename_i hx
      simp [ParserEvent.instr, hx]
    · rfl

theorem step_completing_byte {e : Input} {rest : List Input} {b : Byte} {q : Parser} {ev : ParserEvent}
    (hp : paramsOk s.par = true) (hin : s.input = e :: rest) (he : e.event = .byte b) (hph : s.phase ≠ .idle)
    (hq : s.parseByte b = (q, ev)) (hi : ev.instr s.par = some i) :
    step s = exec i ((s.take e rest).setParser q) := by
  have hq' : (s.take e rest).parseByte b = (q, ev) := hq
  have hph' : (s.take e rest).phase ≠ .idle := hph
  have hi' : ev.instr (s.take e rest).par = some i := hi
  rw [step_cons hp hin, he, onEvent, onByte, if_neg hph', hq', hi']

theorem awaitingPhase_ne_idle (f : FrameType) : awaitingPhase f ≠ .idle := by cases f <;> nofun

theorem step_place_frame (hp : paramsOk s.par = true) {f : FrameType} (hi : i.frameType? = some f)
    (hwf : i.wf s.par = true) :
    step (s.place i) = exec i { s with
      phase := if s.phase = .idle then awaitingPhase f else s.phase, pState := .idle, pCtrl := control s.par f,
      acc := [], openOk := true, closeOk := true } := by
  obtain ⟨e, hparse, he⟩ := parse_last hp hi hwf s.peerAddr
  have hplace : s.place i = { s with
      phase := if s.phase = .idle then awaitingPhase f else s.phase, pState := lastPState f, pCtrl := control s.par f,
      acc := dataField i, input := Input.ofEvent (.byte FLAG) :: s.input } := by
    simp only [State.place, hi]
  have hbusy : (if s.phase = .idle then awaitingPhase f else s.phase) ≠ .idle := by
    split
    · exact awaitingPhase_ne_idle f
    · assumption
  rw [hplace]
  exact step_completing_byte (e := .ofEvent (.byte FLAG)) (rest := s.input) (q := ⟨.idle, control s.par f, []⟩) hp rfl
    rfl hbusy hparse he

/-- Settles O6: a placed command is the next event, and a placed frame lacks only the closing FLAG that is. -/
theorem placedWordIsWhatTheStepRuns : Obligations.PlacedWordIsWhatTheStepRuns := by
  intro s nbits w i hp htable
  have hplace : s.withFetchWord nbits w = s.place i := by simp only [State.withFetchWord, placeWord, htable]
  rw [hplace]
  cases hi : i.frameType? with
  | none => exact step_place_command hp hi
  | some f =>
    obtain hnone | ⟨-, hwf⟩ := tableInstr_cases htable
    · cases hi.symm.trans hnone
    · exact step_place_frame hp hi hwf

end

/-! ### Answers (R111, 10_state.md R37) -/

/-- What a piece of work in progress has emitted behind `before`: one answer, last, if it ends in `IDLE`; none if it goes
on. -/
inductive AnswersAtEnd (before : List Action) (u : State) : Prop where
  | ends (silent : List Action) (r : Result) (idle : u.phase = .idle)
      (emitted : u.out = before ++ (silent ++ [.resp r])) (none : answers silent = [])
  | goesOn (silent : List Action) (busy : u.phase ≠ .idle) (emitted : u.out = before ++ silent)
      (none : answers silent = [])

section
variable {s u : State}

theorem AnswersAtEnd.of_unchanged {before : List Action} (busy : u.phase ≠ .idle) (hout : u.out = before) :
    AnswersAtEnd before u :=
  .goesOn [] busy (by simp [hout]) rfl

/-- An instruction either ends the operation, or the command it is, with one answer, or leaves it in progress. -/
theorem Effect.answersAtEnd {i : Instr} (e : Effect s i u) : AnswersAtEnd s.out u := by
  cases e with
  | openFailed r ch rate n t idle closed fits port => exact .ends [.portOpen ch rate] _ rfl rfl rfl
  | openWaits ch rate n t idle closed fits port => exact .goesOn [.portOpen ch rate] nofun rfl rfl
  | openStarted ch rate n t idle closed fits port budget =>
    exact .goesOn [.portOpen ch rate, .tx _] nofun rfl rfl
  | openExhausted ch rate t idle closed fits port => exact .ends [.portOpen ch rate, .portClose] _ rfl rfl rfl
  | notConnected i idle closed command => exact .ends [] _ rfl rfl rfl
  | sendStarted p idle connected length budget => exact .goesOn [.tx _] nofun rfl rfl
  | sendExhausted p idle connected length budget => exact .ends [] _ rfl rfl rfl
  | receiveWaits idle connected => exact .of_unchanged nofun rfl
  | closeStartedI idle connected role budget => exact .goesOn [.tx _] nofun rfl rfl
  | closeWaitsR idle connected role seen => exact .of_unchanged nofun rfl
  | closeStartedR idle connected role seen budget => exact .goesOn [.tx _] nofun rfl rfl
  | closeExhausted idle connected path budget => exact .ends [.portClose] _ rfl rfl rfl
  | discarded i frame busy => exact .of_unchanged busy rfl
  | setAnswered waits => exact .ends [.tx _] _ rfl rfl rfl
  | uaConnects waits => exact .ends [] _ rfl rfl rfl
  | uaCloses waits => exact .ends [.portClose] _ rfl rfl rfl
  | discCloses waits => exact .ends [.tx _, .portClose] _ rfl rfl rfl
  | discStarts waits budget => exact .goesOn [.tx _] nofun rfl rfl
  | discExhausted waits budget => exact .ends [.portClose] _ rfl rfl rfl
  | discEndsReceive waits => exact .ends [] _ rfl rfl rfl
  | delivered b d waits length expected => exact .ends [.tx _] _ rfl rfl rfl
  | duplicate b d waits length old => exact .goesOn [.tx _] (by simp [waits]) rfl rfl
  | damaged b d x waits length check => exact .goesOn [.tx _] (by simp [waits]) rfl rfl
  | acknowledged i waits bit => exact .ends [] _ rfl rfl rfl
  | rejectedAgain i waits bit budget => exact .goesOn [.tx _] (by simp [waits]) rfl rfl
  | rejectedSpent i waits bit budget => exact .ends [] _ rfl rfl rfl

/-- During an operation a `TICK` ends it with one answer or leaves it in progress. -/
theorem TickEffect.answersAtEnd (e : TickEffect s u) (busy : s.phase ≠ .idle) : AnswersAtEnd s.out u := by
  cases e with
  | nothing => exact .of_unchanged busy rfl
  | counts armed left => exact .of_unchanged busy rfl
  | ranOut idle armed last => exact absurd idle busy
  | retransmitted p waits budget => exact .goesOn [.tx _] busy rfl rfl
  | openExhausted waits => exact .ends [.portClose] _ rfl rfl rfl
  | sendExhausted waits => exact .ends [] _ rfl rfl rfl
  | closeExhausted waits => exact .ends [.portClose] _ rfl rfl rfl

theorem TimedPhase.phase_ne_idle (p : TimedPhase) : p.phase ≠ .idle := by cases p <;> nofun

/-- With no operation in progress a `TICK` emits nothing. -/
theorem TickEffect.silent_of_idle (e : TickEffect s u) (idle : s.phase = .idle) : u.phase = .idle ∧ u.out = s.out := by
  cases e with
  | nothing => exact ⟨idle, rfl⟩
  | counts armed left => exact ⟨idle, rfl⟩
  | ranOut idle armed last => exact ⟨idle, rfl⟩
  | retransmitted p waits budget => exact absurd (waits.symm.trans idle) p.phase_ne_idle
  | openExhausted waits => cases idle.symm.trans waits
  | sendExhausted waits => cases idle.symm.trans waits
  | closeExhausted waits => obtain waits | waits := waits <;> cases idle.symm.trans waits

/-- The event that a step takes next is a command. -/
def TakesCommand (s : State) : Prop :=
  ∃ (b : Byte) (o : Operands) (openOk closeOk : Bool) (rest : List Input),
    s.input = { event := .cmd b o, openOk := openOk, closeOk := closeOk } :: rest

/-- What R111 and R37 ask of a step from `s` to `u`. -/
def AnsweredOnce (s u : State) : Prop :=
  ∃ new : List Action, u.out = s.out ++ new
    ∧ (answers new).length ≤ 1
    ∧ (answers new ≠ [] ↔ u.phase = .idle ∧ (s.phase ≠ .idle ∨ TakesCommand s))
    ∧ (s.phase = .idle → u.phase ≠ .idle → TakesCommand s)

theorem answers_append_resp {as : List Action} (h : answers as = []) (r : Result) :
    answers (as ++ [.resp r]) = [.resp r] := by
  rw [answers, List.filter_append]
  exact congrArg (· ++ _) h

/-- Work in progress that answers at its end and only there is answered once. -/
theorem AnswersAtEnd.answeredOnce (h : AnswersAtEnd s.out u) (work : s.phase ≠ .idle ∨ TakesCommand s) :
    AnsweredOnce s u := by
  have hleave : s.phase = .idle → u.phase ≠ .idle → TakesCommand s := fun idle _ => work.resolve_left (absurd idle)
  cases h with
  | ends silent r idle emitted none =>
    refine ⟨_, emitted, ?_, ?_, hleave⟩
    · simp [answers_append_resp none]
    · simp [answers_append_resp none, idle, work]
  | goesOn silent busy emitted none =>
    refine ⟨_, emitted, ?_, ?_, hleave⟩
    · simp [none]
    · simp [none, busy]

/-- A step that has no operation, takes no command and emits nothing meets R111 and R37. -/
theorem answeredOnce_of_silent (hidle : s.phase = .idle) (hcmd : ¬TakesCommand s) (hidle' : u.phase = .idle)
    (hout : u.out = s.out) : AnsweredOnce s u := by
  refine ⟨[], by simp [hout], by simp [answers], ?_, fun _ h => absurd hidle' h⟩
  simp [answers, hidle, hcmd]

theorem not_takesCommand_nil (hin : s.input = []) : ¬TakesCommand s := by
  rintro ⟨b, o, openOk, closeOk, rest, h⟩
  rw [hin] at h
  cases h

theorem not_takesCommand_tick {i : Input} {rest : List Input} (hin : s.input = i :: rest) (he : i.event = .tick) :
    ¬TakesCommand s := by
  rintro ⟨b, o, openOk, closeOk, rest', h⟩
  rw [hin] at h
  cases h
  cases he

/-- A step with an operation in progress or a command to take answers when that ends. -/
theorem step_answersAtEnd (h : step s = .next u) (work : s.phase ≠ .idle ∨ TakesCommand s) : AnswersAtEnd s.out u := by
  obtain ⟨-, ⟨hin, rfl⟩ | ⟨i, rest, v, hin, rfl, hstep⟩⟩ := step_effect h
  · exact .of_unchanged (work.resolve_right (not_takesCommand_nil hin)) rfl
  obtain ⟨b, o, c, -, -, -, e⟩ | ⟨b, c, -, -, -, e⟩ | ⟨b, -, busy, rfl⟩ | ⟨-, busy, rfl⟩ | ⟨he, e⟩ := hstep
  · exact e.answersAtEnd
  · exact e.answersAtEnd
  · exact .of_unchanged busy rfl
  · exact .of_unchanged busy rfl
  · exact e.answersAtEnd (work.resolve_right (not_takesCommand_tick hin he))

/-- A step with neither emits nothing: only a `TICK` has a meaning then. -/
theorem step_silent (h : step s = .next u) (idle : s.phase = .idle) (hcmd : ¬TakesCommand s) :
    u.phase = .idle ∧ u.out = s.out := by
  obtain ⟨-, ⟨-, rfl⟩ | ⟨⟨ev, openOk, closeOk⟩, rest, v, hin, rfl, hstep⟩⟩ := step_effect h
  · exact ⟨idle, rfl⟩
  obtain ⟨b, o, c, rfl, -, -, -⟩ | ⟨b, c, -, busy, -, -⟩ | ⟨b, -, busy, -⟩ | ⟨-, busy, -⟩ | ⟨-, e⟩ := hstep
  · exact absurd ⟨b, o, openOk, closeOk, rest, hin⟩ hcmd
  · exact absurd idle busy
  · exact absurd idle busy
  · exact absurd idle busy
  · exact e.silent_of_idle idle

/-- Settles O53: a step with an operation in progress or a command to take answers exactly at its end; any other step is
silent. -/
theorem everyCommandIsAnsweredOnce : Obligations.EveryCommandIsAnsweredOnce := by
  intro s s' h
  show AnsweredOnce s s'
  by_cases work : s.phase ≠ .idle ∨ TakesCommand s
  · exact (step_answersAtEnd h work).answeredOnce work
  · obtain ⟨hidle, hcmd⟩ := not_or.mp work
    obtain ⟨hidle', hout⟩ := step_silent h (not_not.mp hidle) hcmd
    exact answeredOnce_of_silent (not_not.mp hidle) hcmd hidle' hout

end

/-! ### Transmitted frames (R91 to R93, R102) -/

section
variable {s u : State}

theorem sentFrame_initiator (c : Config) {f : FrameType} (hf : (controlInstr f).isSome = true) :
    SentFrame c .initiator (encodeC c.aI (control c f)) :=
  .inl ⟨f, hf, rfl, rfl⟩

theorem sentFrame_responder (c : Config) {f : FrameType} (hf : (controlInstr f).isSome = true)
    (hs : sendsType .responder f = true) : SentFrame c .responder (encodeC c.aR (control c f)) :=
  .inl ⟨f, hf, hs, rfl⟩

theorem sentFrame_disc (c : Config) (r : Role) : SentFrame c r (encodeC (addr c r) c.cDisc) :=
  .inl ⟨.disc, rfl, by cases r <;> rfl, rfl⟩

theorem sentFrame_rr (c : Config) (r : Role) (b : Bit) : SentFrame c r (encodeC (addr c r) (cRR c b)) :=
  .inl ⟨rrType b, by cases b <;> rfl, by cases r <;> cases b <;> rfl, rfl⟩

theorem sentFrame_rej (c : Config) (r : Role) (b : Bit) : SentFrame c r (encodeC (addr c r) (cREJ c b)) :=
  .inl ⟨rejType b, by cases b <;> rfl, by cases r <;> cases b <;> rfl, rfl⟩

theorem sentFrame_info {c : Config} {p : Bytes} (hp : payloadInRange c p = true) (r : Role) (b : Bit) :
    SentFrame c r (encodeI c (addr c r) b p) :=
  .inr ⟨b, p, hp, rfl⟩

/-- What a timed phase may retransmit is a frame of the role. -/
theorem LinkInv.txBuf_sentFrame (h : LinkInv s) {p : TimedPhase} (hph : s.phase = p.phase) :
    SentFrame s.par s.role s.txBuf := by
  cases p with
  | openI =>
    obtain ⟨hrole, hbuf⟩ := h.initiator_frames.1 hph
    rw [hbuf, State.controlFrame, State.ownAddr, hrole]
    exact sentFrame_initiator s.par rfl
  | send =>
    obtain ⟨p, hp, -, hbuf⟩ := h.one_outstanding hph
    rw [hbuf]
    exact sentFrame_info hp s.role s.ns
  | closeI =>
    obtain ⟨-, hbuf⟩ := h.initiator_frames.2 hph
    rw [hbuf]
    exact sentFrame_disc s.par s.role
  | closeR =>
    obtain ⟨-, hbuf⟩ := h.responder_frames.2 hph
    rw [hbuf]
    exact sentFrame_disc s.par s.role

/-- Of what has been emitted behind `before`, every frame is one that an engine of this role sends. -/
def TransmitsOwn (before : List Action) (u : State) : Prop :=
  ∃ new : List Action, u.out = before ++ new ∧ ∀ bs : Bytes, .tx bs ∈ new → SentFrame u.par u.role bs

/-- Emitting actions with no frame among them. -/
theorem TransmitsOwn.of_silent {before : List Action} (new : List Action) (hout : u.out = before ++ new)
    (hno : ∀ bs : Bytes, .tx bs ∉ new) : TransmitsOwn before u :=
  ⟨new, hout, fun bs hbs => absurd hbs (hno bs)⟩

theorem TransmitsOwn.of_unchanged {before : List Action} (hout : u.out = before) : TransmitsOwn before u :=
  .of_silent [] (by simp [hout]) (by simp)

/-- Emitting one frame, between actions that are none. -/
theorem TransmitsOwn.of_frame {before : List Action} {bs : Bytes} (pre post : List Action)
    (hout : u.out = before ++ (pre ++ .tx bs :: post)) (hbs : SentFrame u.par u.role bs)
    (hno : ∀ bs : Bytes, .tx bs ∉ pre ∧ .tx bs ∉ post) : TransmitsOwn before u := by
  refine ⟨_, hout, fun bs' h => ?_⟩
  obtain ⟨hpre, hpost⟩ := hno bs'
  simp only [List.mem_append, List.mem_cons, hpre, hpost, or_false, false_or, Action.tx.injEq] at h
  exact h ▸ hbs

/-- Every frame that an instruction transmits is one of the role's own. -/
theorem Effect.transmitsOwn {i : Instr} (e : Effect s i u) (h : LinkInv s) : TransmitsOwn s.out u := by
  cases e with
  | openFailed r ch rate n t idle closed fits port => exact .of_silent _ rfl (by simp)
  | openWaits ch rate n t idle closed fits port => exact .of_silent _ rfl (by simp)
  | openStarted ch rate n t idle closed fits port budget =>
    exact .of_frame [.portOpen ch rate] [] rfl (sentFrame_initiator (f := .set) s.par rfl) (by simp)
  | openExhausted ch rate t idle closed fits port => exact .of_silent _ rfl (by simp)
  | notConnected i idle closed command => exact .of_silent _ rfl (by simp)
  | sendStarted p idle connected length budget =>
    exact .of_frame [] [] rfl (sentFrame_info length s.role s.ns) (by simp)
  | sendExhausted p idle connected length budget => exact .of_silent _ rfl (by simp)
  | receiveWaits idle connected => exact .of_unchanged rfl
  | closeStartedI idle connected role budget =>
    refine .of_frame [] [] rfl ?_ (by simp)
    rw [role]
    exact sentFrame_disc s.par .initiator
  | closeWaitsR idle connected role seen => exact .of_unchanged rfl
  | closeStartedR idle connected role seen budget =>
    refine .of_frame [] [] rfl ?_ (by simp)
    rw [role]
    exact sentFrame_disc s.par .responder
  | closeExhausted idle connected path budget => exact .of_silent _ rfl (by simp)
  | discarded i frame busy => exact .of_unchanged rfl
  | setAnswered waits =>
    refine .of_frame [] [.resp _] rfl ?_ (by simp)
    rw [h.responder_frames.1 (.inl waits)]
    exact sentFrame_responder (f := .ua) s.par rfl rfl
  | uaConnects waits => exact .of_silent _ rfl (by simp)
  | uaCloses waits => exact .of_silent _ rfl (by simp)
  | discCloses waits =>
    refine .of_frame [] [.portClose, .resp _] rfl ?_ (by simp)
    rw [(h.initiator_frames.2 waits).1]
    exact sentFrame_initiator (f := .ua) s.par rfl
  | discStarts waits budget =>
    refine .of_frame [] [] rfl ?_ (by simp)
    rw [h.responder_frames.1 (.inr waits)]
    exact sentFrame_disc s.par .responder
  | discExhausted waits budget => exact .of_silent _ rfl (by simp)
  | discEndsReceive waits => exact .of_silent _ rfl (by simp)
  | delivered b d waits length expected =>
    exact .of_frame [] [.resp _] rfl (sentFrame_rr s.par s.role _) (by simp)
  | duplicate b d waits length old => exact .of_frame [] [] rfl (sentFrame_rr s.par s.role _) (by simp)
  | damaged b d x waits length check => exact .of_frame [] [] rfl (sentFrame_rej s.par s.role _) (by simp)
  | acknowledged i waits bit => exact .of_silent _ rfl (by simp)
  | rejectedAgain i waits bit budget =>
    exact .of_frame [] [] rfl (h.txBuf_sentFrame (p := .send) waits) (by simp)
  | rejectedSpent i waits bit budget => exact .of_silent _ rfl (by simp)

/-- The frame that a `TICK` retransmits is one of the role's own. -/
theorem TickEffect.transmitsOwn (e : TickEffect s u) (h : LinkInv s) : TransmitsOwn s.out u := by
  cases e with
  | nothing => exact .of_unchanged rfl
  | counts armed left => exact .of_unchanged rfl
  | ranOut idle armed last => exact .of_unchanged rfl
  | retransmitted p waits budget => exact .of_frame [] [] rfl (h.txBuf_sentFrame waits) (by simp)
  | openExhausted waits => exact .of_silent _ rfl (by simp)
  | sendExhausted waits => exact .of_silent _ rfl (by simp)
  | closeExhausted waits => exact .of_silent _ rfl (by simp)

/-- Settles O55: taking the input and the parser step emit nothing and keep the invariants, which say of `TXBUF` and of
each phase's role what an instruction and a `TICK` then transmit. -/
theorem everyTransmittedFrameIsTheRolesOwn : Obligations.EveryTransmittedFrameIsTheRolesOwn := by
  intro s s' h hs
  show TransmitsOwn s.out s'
  obtain ⟨-, ⟨-, rfl⟩ | ⟨i, rest, u, -, rfl, hstep⟩⟩ := step_effect hs
  · exact .of_unchanged rfl
  have hu := h.take i rest
  obtain ⟨b, o, c, -, -, -, e⟩ | ⟨b, c, -, -, -, e⟩ | ⟨b, -, -, rfl⟩ | ⟨-, -, rfl⟩ | ⟨-, e⟩ := hstep
  · exact e.transmitsOwn hu
  · exact e.transmitsOwn (hu.parseByte b)
  · exact .of_unchanged rfl
  · exact .of_unchanged rfl
  · exact e.transmitsOwn hu

end

end Sys2Proof.Machine
end

section
/-! PROOF. The statements of 40_frame_codec.md: the check byte (R131), stuffing (R132, R133, R136), the parser (R140 to
R152), and what a step does with the bytes of a frame (42_arq.md R214, R222). -/

namespace Sys2Proof.Machine

/-! ### The check byte (R131) -/

theorem bcc2_concat (p : Bytes) (x : Byte) : bcc2 (p ++ [x]) = bcc2 p ^^^ x := by
  simp only [bcc2, xorFold_append, xorFold_single]

theorem bcc2_concat_self (p : Bytes) : bcc2 (p ++ [bcc2 p]) = 0x00#8 := by rw [bcc2_concat, BitVec.xor_self]

/-- Settles O11: `xor_fold` of an append is the XOR of the folds. -/
theorem checkByteIsItsOwnInverse : Obligations.CheckByteIsItsOwnInverse :=
  ⟨rfl, bcc2_concat, bcc2_concat_self, xorFold_single⟩

/-! ### Stuffed bytes (R132, R133) -/

/-- The wire bytes `pre ++ [w]` of a data field stand for the data byte `y`, which is `w` itself, or behind an `ESC` the
masked `w` (R147). -/
inductive Carries : Bytes → Byte → Byte → Prop where
  | plain {w : Byte} (notFlag : w ≠ FLAG) (notEsc : w ≠ ESC) : Carries [] w w
  | escaped {w y : Byte} (notFlag : w ≠ FLAG) (masked : y = w ^^^ STUFF_MASK) : Carries [ESC] w y

/-- `stuff` writes every data byte as wire bytes that carry it. -/
theorem stuff_cons_carries (y : Byte) :
    ∃ pre w, (∀ ys, stuff (y :: ys) = pre ++ w :: stuff ys) ∧ Carries pre w y := by
  cases hr : reserved y with
  | true =>
    refine ⟨[ESC], y ^^^ STUFF_MASK, fun ys => by simp [stuff, hr], .escaped (stuffed_ne_flag hr) ?_⟩
    rw [BitVec.xor_assoc, BitVec.xor_self, BitVec.xor_zero]
  | false =>
    obtain ⟨hflag, hesc⟩ := reserved_false.mp hr
    exact ⟨[], y, fun ys => by simp [stuff, hr], .plain hflag hesc⟩

theorem flag_not_mem_stuff (xs : Bytes) : FLAG ∉ stuff xs := by
  induction xs with
  | nil => simp [stuff]
  | cons x xs ih =>
    obtain ⟨pre, w, hs, hc⟩ := stuff_cons_carries x
    have he : FLAG ≠ ESC := by decide
    rw [hs]
    cases hc with
    | plain hflag => simp [ih, hflag.symm]
    | escaped hflag => simp [ih, hflag.symm, he]

/-- What follows an `ESC` that `stuff` wrote: a masked `FLAG` or a masked `ESC`. -/
theorem stuff_after_esc (xs : Bytes) {k : Nat} (hk : (stuff xs)[k]? = some ESC) :
    (stuff xs)[k + 1]? = some 0x5E#8 ∨ (stuff xs)[k + 1]? = some 0x5D#8 := by
  induction xs generalizing k with
  | nil => simp [stuff] at hk
  | cons x xs ih =>
    cases hr : reserved x with
    | true =>
      have hx : x = FLAG ∨ x = ESC := by simpa [reserved] using hr
      have hmasked : x ^^^ STUFF_MASK = 0x5E#8 ∨ x ^^^ STUFF_MASK = 0x5D#8 := by obtain rfl | rfl := hx <;> decide
      have hne : x ^^^ STUFF_MASK ≠ ESC := by obtain rfl | rfl := hx <;> decide
      have hs : stuff (x :: xs) = ESC :: (x ^^^ STUFF_MASK) :: stuff xs := by simp [stuff, hr]
      rw [hs] at hk ⊢
      match k with
      | 0 => simpa using hmasked
      | 1 => exact absurd (by simpa using hk) hne
      | k + 2 => exact ih hk
    | false =>
      have hs : stuff (x :: xs) = x :: stuff xs := by simp [stuff, hr]
      rw [hs] at hk ⊢
      match k with
      | 0 => exact absurd (by simpa using hk) (reserved_false.mp hr).2
      | k + 1 => exact ih hk

/-- Settles O9: by induction over the bytes that are stuffed. -/
theorem stuffedBytesHoldNoFlag : Obligations.StuffedBytesHoldNoFlag :=
  fun xs => ⟨flag_not_mem_stuff xs, fun _ => stuff_after_esc xs⟩

theorem stuff_length (xs : Bytes) : (stuff xs).length = xs.length + xs.countP reserved := by
  induction xs with
  | nil => rfl
  | cons x xs ih =>
    cases hr : reserved x with
    | true =>
      simp only [stuff, hr, if_true, List.length_append, List.length_cons, List.length_nil, List.countP_cons, ih]
      omega
    | false =>
      simp only [stuff, hr, if_false, List.length_append, List.length_cons, List.length_nil, List.countP_cons, ih,
        Bool.false_eq_true]
      omega

theorem encodeI_length (c : Config) (a : Byte) (b : Bit) (p : Bytes) :
    (encodeI c a b p).length = 5 + (stuff (p ++ [bcc2 p])).length := by
  simp only [encodeI, infoFrame, List.length_append, List.length_cons, List.length_nil]
  omega

/-- Settles O10: stuffing takes no byte away, and adds at most one for each. -/
theorem frameLengths : Obligations.FrameLengths := by
  refine ⟨stuff_length, fun c a b p hp => ⟨encodeI_length c a b p, ?_, encodeI_length_le hp a b⟩, fun _ _ => rfl⟩
  have hmin := (payloadInRange_iff.mp hp).1
  rw [encodeI_length, stuff_length, List.length_append, List.length_singleton]
  omega

/-! ### Destuffing (R136) -/

theorem destuff_escaped (y : Byte) (ys : Bytes) :
    destuff (ESC :: y :: ys) = (destuff ys).map (fun r => (y ^^^ STUFF_MASK) :: r) := by simp [destuff]

theorem destuff_plain {y : Byte} (hy : y ≠ ESC) (ys : Bytes) :
    destuff (y :: ys) = (destuff ys).map (fun r => y :: r) := by
  cases ys <;> simp [destuff, hy]

theorem destuff_stuff (xs : Bytes) : destuff (stuff xs) = some xs := by
  induction xs with
  | nil => rfl
  | cons x xs ih =>
    obtain ⟨pre, w, hs, hc⟩ := stuff_cons_carries x
    rw [hs]
    cases hc with
    | plain _ hesc => rw [List.nil_append, destuff_plain hesc, ih, Option.map_some]
    | escaped _ hx => rw [List.singleton_append, destuff_escaped, ih, Option.map_some, hx]

/-- Settles O8: by the two equations `destuff` undoes what `stuff` writes for each byte. -/
theorem destuffInvertsStuff : Obligations.DestuffInvertsStuff :=
  ⟨rfl, destuff_escaped, rfl, fun _ ys hy => destuff_plain hy ys, destuff_stuff⟩

/-! ### Parser events (R141) and faults (R142 to R148) -/

section
variable {c : Config} {ea : Byte} {q : Parser}

theorem closeFrame_short (h : q.acc.length < 2) :
    q.closeFrame c = ({ q with acc := [], pState := .idle }, .malformed) := by
  unfold Parser.closeFrame
  match hacc : q.acc with
  | [] => rfl
  | [x] => rfl
  | x :: y :: zs => simp [hacc] at h

theorem append_full (h : q.acc.length = c.maxPayload + 1) (d : Byte) :
    q.append c d = ({ q with acc := [], pState := .idle }, .malformed) := by
  simp [Parser.append, h]

theorem append_event (c : Config) (q : Parser) (d : Byte) :
    (q.append c d).2 = .none ∨ (q.append c d).2 = .malformed := by
  unfold Parser.append
  split
  · exact .inr rfl
  · exact .inl rfl

/-- Two or more bytes are a payload and a check byte behind it. -/
theorem exists_payload_concat {bs : Bytes} (h : 2 ≤ bs.length) : ∃ d x, d ≠ [] ∧ bs = d ++ [x] := by
  obtain rfl | ⟨d, x, rfl⟩ := List.eq_nil_or_concat' bs
  · simp at h
  · refine ⟨d, x, ?_, rfl⟩
    rintro rfl
    simp at h

/-- What a closing FLAG returns: a control frame's byte, or the verdict on a data field. -/
def ClosesFrame (c : Config) (q : Parser) (e : ParserEvent) : Prop :=
  (q.pState = .gotBcc1 ∧ e = .ctrl q.pCtrl)
    ∨ (q.pState = .data ∧ ∃ d x, d ≠ [] ∧ q.acc = d ++ [x]
        ∧ e = if xorFold d = x then .info (q.seqBit c) d else .badBcc2 (q.seqBit c) d x)

/-- A byte in `P_DATA`: a FLAG closes the frame (R148), any other byte goes into the data field. -/
theorem parse_data_event (hs : q.pState = .data) (b : Byte) :
    (q.parse c ea b).2 = .none ∨ (q.parse c ea b).2 = .malformed ∨ ClosesFrame c q (q.parse c ea b).2 := by
  by_cases hb : b = FLAG
  · subst hb
    by_cases hl : q.acc.length < 2
    · exact .inr (.inl (by simp [Parser.parse, hs, closeFrame_short hl]))
    · obtain ⟨d, x, hd, hacc⟩ := exists_payload_concat (Nat.not_lt.mp hl)
      exact .inr (.inr (.inr ⟨hs, d, x, hd, hacc, by rw [parse_close hs hacc hd]⟩))
  · by_cases he : b = ESC
    · have hescape : ESC ≠ FLAG := by decide
      exact .inl (by simp [Parser.parse, hs, hescape, he])
    · have happend : (q.parse c ea b).2 = (q.append c b).2 := by simp [Parser.parse, hs, hb, he]
      rw [happend]
      obtain h | h := append_event c q b
      · exact .inl h
      · exact .inr (.inl h)

/-- What a parser step can return: no frame yet, a frame dropped, or what a closing FLAG returns. -/
theorem parse_event (c : Config) (ea : Byte) (q : Parser) (b : Byte) :
    (q.parse c ea b).2 = .none ∨ (q.parse c ea b).2 = .malformed ∨ ClosesFrame c q (q.parse c ea b).2 := by
  cases hs : q.pState with
  | idle =>
    left
    simp only [Parser.parse, hs]
    split <;> rfl
  | gotFlag =>
    simp only [Parser.parse, hs]
    split
    · exact .inl rfl
    · split
      · exact .inl rfl
      · exact .inr (.inl rfl)
  | gotAddr =>
    simp only [Parser.parse, hs]
    split
    · exact .inr (.inl rfl)
    · split
      · exact .inl rfl
      · exact .inr (.inl rfl)
  | gotCtrl =>
    simp only [Parser.parse, hs]
    split
    · exact .inr (.inl rfl)
    · split
      · left
        split <;> rfl
      · exact .inr (.inl rfl)
  | gotBcc1 =>
    simp only [Parser.parse, hs]
    split
    · exact .inr (.inr (.inl ⟨hs, rfl⟩))
    · exact .inr (.inl rfl)
  | data => exact parse_data_event hs b
  | esc =>
    simp only [Parser.parse, hs]
    split
    · exact .inr (.inl rfl)
    · obtain h | h := append_event c { q with pState := .data } (b ^^^ STUFF_MASK)
      · exact .inl h
      · exact .inr (.inl h)

/-- R141: the bounds of each event of the parser `q`. -/
def ValidEvent (c : Config) (q : Parser) : ParserEvent → Prop
  | .none => True
  | .malformed => True
  | .ctrl k => ∃ f : FrameType, (controlInstr f).isSome = true ∧ k = control c f
  | .info s d => payloadInRange c d = true ∧ q.pCtrl = cI c s ∧ q.acc = d ++ [bcc2 d]
  | .badBcc2 s d x => payloadInRange c d = true ∧ q.pCtrl = cI c s ∧ q.acc = d ++ [x] ∧ x ≠ bcc2 d

theorem ClosesFrame.validEvent {e : ParserEvent} (h : ClosesFrame c q e) (hc : paramsOk c = true) (hq : ParserInv c q) :
    ValidEvent c q e := by
  obtain ⟨hs, rfl⟩ | ⟨hs, d, x, hd, hacc, rfl⟩ := h
  · exact hq.ctrl_control hs
  · obtain ⟨b, hb⟩ := hq.ctrl_info (.inl hs)
    have hbit : q.seqBit c = b := seqBit_cI hc hb
    have hrange : payloadInRange c d = true := by
      have hmax := hq.acc_bounded
      have hmin := List.length_pos_iff.mpr hd
      rw [hacc, List.length_append, List.length_singleton] at hmax
      exact payloadInRange_iff.mpr ⟨hmin, by omega⟩
    rw [hbit]
    split
    · rename_i hx
      exact ⟨hrange, hb, by rw [hacc, ← hx]; rfl⟩
    · rename_i hx
      exact ⟨hrange, hb, hacc, Ne.symm hx⟩

end

/-- Settles O20: a closing FLAG reads registers that `ParserInv` has checked, and no other byte completes a frame. -/
theorem parserEventsCarryValidFrames : Obligations.ParserEventsCarryValidFrames := by
  intro c ea q b q' e hc hq hparse
  have hinv := parse_keeps_parserInv hq ea b
  have hevent := parse_event c ea q b
  rw [hparse] at hinv hevent
  refine ⟨hinv, ?_⟩
  show ValidEvent c q e
  obtain rfl | rfl | hclose := hevent
  · trivial
  · trivial
  · exact hclose.validEvent hc hq

/-- Settles O18: the header states in turn, each with the bytes it does not expect. -/
theorem headerFaultsDropTheFrame : Obligations.HeaderFaultsDropTheFrame := by
  intro c ea q b
  refine ⟨?idle, ?gotFlag, ?gotAddr, ?gotCtrl, ?flag, ?gotBcc1⟩
  case idle =>
    intro hs hb
    simp [Parser.parse, hs, hb]
  case gotFlag =>
    intro hs hb ha
    simp [Parser.parse, hs, hb, ha]
  case gotAddr =>
    intro hs hb hf
    have hnone : frameTypeOf c b = none :=
      Option.eq_none_iff_forall_ne_some.mpr fun f hsome => hf f (control_of_frameTypeOf hsome)
    simp [Parser.parse, hs, hb, hnone]
  case gotCtrl =>
    intro hs hb hx
    simp [Parser.parse, hs, hb, hx]
  case flag => rintro (hs | hs) <;> simp [Parser.parse, hs]
  case gotBcc1 =>
    intro hs hb
    simp [Parser.parse, hs, hb]

/-- Settles O19: `append` has no room (R146), a FLAG after an `ESC` (R147), `close_frame` has no payload (R148). -/
theorem dataFaultsDropTheFrame : Obligations.DataFaultsDropTheFrame := by
  intro c ea q b
  refine ⟨?full, ?escapedFull, ?escapedFlag, ?short⟩
  case full =>
    intro hs hb he hl
    simp [Parser.parse, hs, hb, he, append_full hl]
  case escapedFull =>
    intro hs hb hl
    simp [Parser.parse, hs, hb, append_full (q := { q with pState := .data }) hl]
  case escapedFlag =>
    intro hs
    simp [Parser.parse, hs]
  case short =>
    intro hs hl
    simp [Parser.parse, hs, closeFrame_short hl]

/-! ### Whole frames of the peer (R150) -/

theorem feed_encodeI {c : Config} (h : paramsOk c = true) (r : Role) {q : Parser}
    (hq : q.pState = .idle ∨ q.pState = .gotFlag) (b : Bit) {p : Bytes} (hp : payloadInRange c p = true) :
    q.feed c (addr c r) (encodeI c (addr c r) b p) =
      ({ pState := .idle, pCtrl := cI c b, acc := [] },
        List.replicate ((encodeI c (addr c r) b p).length - 1) .none ++ [.info b p]) := by
  have hlen : (encodeI c (addr c r) b p).length - 1 = 4 + (stuff (p ++ [bcc2 p])).length := by
    rw [encodeI_length]
    omega
  have hcheck : xorFold p = bcc2 p := rfl
  rw [hlen, encodeI, feed_infoFrame h r hq b p (bcc2 p) hp, if_pos hcheck]

/-- Settles O14: the bytes before the closing FLAG only build the frame up. -/
theorem parserDecodesEveryEncodedFrame : Obligations.ParserDecodesEveryEncodedFrame := by
  intro c r q h hq
  refine ⟨fun b p hp => feed_encodeI h r hq b hp, fun ha f hf => ?_⟩
  rw [feed_controlFrame h r hq f hf, ha]
  rfl

/-! ### A damaged data field (R151) -/

section
variable {c : Config} {ea : Byte} {q : Parser}

/-- A wire byte that a change makes neither a `FLAG` nor an `ESC` carries the data byte with the same change. -/
theorem Carries.flip {pre : Bytes} {w y m : Byte} (h : Carries pre w y) (hesc : w ^^^ m ≠ ESC)
    (hflag : w ^^^ m ≠ FLAG) : Carries pre (w ^^^ m) (y ^^^ m) := by
  cases h with
  | plain => exact .plain hflag hesc
  | escaped _ hy =>
    refine .escaped hflag ?_
    rw [hy, BitVec.xor_assoc, BitVec.xor_assoc, BitVec.xor_comm m]

/-- A byte that does not occur in `pre` stands right behind it or further on. -/
theorem split_behind {pre before tail after : Bytes} {v w : Byte} (h : pre ++ v :: tail = before ++ w :: after)
    (hw : w ∉ pre) :
    (before = pre ∧ v = w ∧ tail = after) ∨ ∃ before', before = pre ++ v :: before' ∧ tail = before' ++ w :: after := by
  induction pre generalizing before with
  | nil =>
    cases before with
    | nil => exact .inl ⟨rfl, List.cons.inj h⟩
    | cons u before' =>
      obtain ⟨rfl, htail⟩ := List.cons.inj h
      exact .inr ⟨before', rfl, htail⟩
  | cons u pre ih =>
    simp only [List.mem_cons, not_or] at hw
    obtain ⟨hwu, hw⟩ := hw
    cases before with
    | nil => exact absurd (List.cons.inj h).1.symm hwu
    | cons u' before' =>
      obtain ⟨rfl, htail⟩ := List.cons.inj h
      simpa using ih htail hw

/-- A wire byte of a stuffed sequence that is no `ESC` is the last of the bytes that carry one data byte. -/
theorem stuff_split {ys before after : Bytes} {w : Byte} (h : stuff ys = before ++ w :: after) (hw : w ≠ ESC) :
    ∃ xs pre y zs, ys = xs ++ y :: zs ∧ before = stuff xs ++ pre ∧ after = stuff zs ∧ Carries pre w y := by
  induction ys generalizing before with
  | nil => simp [stuff] at h
  | cons y ys ih =>
    obtain ⟨pre, v, hs, hc⟩ := stuff_cons_carries y
    rw [hs] at h
    have hesc : w ∉ pre := by cases hc <;> simp [hw]
    obtain ⟨rfl, rfl, rfl⟩ | ⟨before', rfl, htail⟩ := split_behind h hesc
    · exact ⟨[], before, y, ys, rfl, rfl, rfl, hc⟩
    · obtain ⟨xs, pre', y', zs, rfl, rfl, rfl, hc'⟩ := ih htail
      exact ⟨y :: xs, pre', y', zs, rfl, by simp [hs], rfl, hc'⟩

/-- The wire bytes that carry `y` append `y` to the data field, with no event. -/
theorem feed_carries {pre : Bytes} {w y : Byte} (h : Carries pre w y) (hq : q.pState = .data)
    (hl : q.acc.length ≤ c.maxPayload) :
    q.feed c ea (pre ++ [w]) = ({ q with acc := q.acc ++ [y] }, List.replicate (pre ++ [w]).length .none) := by
  have hroom : ¬q.acc.length = c.maxPayload + 1 := by omega
  cases h with
  | plain hflag hesc => simp [feed_cons, feed_nil, Parser.parse, hq, hflag, hesc, Parser.append, hroom]
  | escaped hflag hy =>
    have he : (ESC == FLAG) = false := by decide
    simp [feed_cons, feed_nil, Parser.parse, hq, he, hflag, hy, Parser.append, hroom, List.replicate]

/-- A stuffed sequence with another byte in place of one that carried a data byte gives the data with another byte. -/
theorem feed_stuff_replaced {xs zs pre : Bytes} {w y : Byte} (h : Carries pre w y) (hq : q.pState = .data)
    (hl : q.acc.length + (xs ++ y :: zs).length ≤ c.maxPayload + 1) :
    q.feed c ea (stuff xs ++ pre ++ w :: stuff zs) =
      ({ q with acc := q.acc ++ (xs ++ y :: zs) },
        List.replicate (stuff xs ++ pre ++ w :: stuff zs).length .none) := by
  have hwire : stuff xs ++ pre ++ w :: stuff zs = stuff xs ++ ((pre ++ [w]) ++ stuff zs) := by simp
  simp only [List.length_append, List.length_cons] at hl
  rw [hwire, feed_append, feed_stuff xs hq (by omega), feed_append,
    feed_carries (q := { q with acc := q.acc ++ xs }) h hq (by simp; omega),
    feed_stuff (q := { q with acc := q.acc ++ xs ++ [y] }) zs hq (by simp; omega)]
  simp only [List.replicate_append_replicate, ← List.length_append, List.append_assoc, List.singleton_append]

/-- The header of an Information frame of the peer, then wire bytes that fill the data field with `d` and a check byte
that is not that of `d`, then the closing FLAG. -/
theorem feed_damagedFrame (h : paramsOk c = true) (r : Role) (hq : q.pState = .idle ∨ q.pState = .gotFlag) (b : Bit)
    {wire d : Bytes} {x : Byte} (hd : d ≠ []) (hx : xorFold d ≠ x)
    (hwire : Parser.feed c (addr c r) { pState := .data, pCtrl := cI c b, acc := [] } wire =
      ({ pState := .data, pCtrl := cI c b, acc := d ++ [x] }, List.replicate wire.length .none)) :
    q.feed c (addr c r) ([FLAG, addr c r, cI c b, addr c r ^^^ cI c b] ++ wire ++ [FLAG]) =
      ({ pState := .idle, pCtrl := cI c b, acc := [] },
        List.replicate (4 + wire.length) .none ++ [.badBcc2 b d x]) := by
  rw [feed_append, feed_append, cI, feed_header h r (infoType b) hq]
  simp only [infoType_not_control, if_true]
  rw [← cI, hwire, feed_cons, parse_close rfl rfl hd, if_neg hx, seqBit_cI h rfl]
  simp [feed_nil, ← List.replicate_append_replicate]

end

theorem xorFold_flip (xs zs : Bytes) (y m : Byte) :
    xorFold (xs ++ (y ^^^ m) :: zs) = xorFold (xs ++ y :: zs) ^^^ m := by
  simp only [xorFold_append, xorFold, BitVec.xor_assoc, BitVec.xor_comm m]

theorem twoPow_ne_zero {k : Nat} (h : k < 8) : BitVec.twoPow 8 k ≠ 0#8 := by
  intro hz
  have hbit : (BitVec.twoPow 8 k).getLsbD k = (0#8).getLsbD k := by rw [hz]
  simp [h] at hbit

/-- Settles O16: the flip changes one bit of one data byte, so the fold of payload and check byte is no longer zero. -/
theorem singleBitFlipGivesBadCheck : Obligations.SingleBitFlipGivesBadCheck := by
  intro c r q b p before w after k h hp hq hs hk hw hesc hflag
  obtain ⟨hmin, hmax⟩ := payloadInRange_iff.mp hp
  obtain ⟨xs, pre, y, zs, hdata, rfl, rfl, hcarry⟩ := stuff_split hs hw
  have hlen : (xs ++ (y ^^^ BitVec.twoPow 8 k) :: zs).length = p.length + 1 := by
    rw [← List.length_concat (as := p) (a := bcc2 p), List.concat_eq_append, hdata]
    simp
  have hfold : xorFold (xs ++ (y ^^^ BitVec.twoPow 8 k) :: zs) = BitVec.twoPow 8 k := by
    have hzero : xorFold (p ++ [bcc2 p]) = 0x00#8 := bcc2_concat_self p
    rw [xorFold_flip, ← hdata, hzero, BitVec.zero_xor]
  have hwire := feed_stuff_replaced (c := c) (ea := addr c r) (q := { pState := .data, pCtrl := cI c b, acc := [] })
    (xs := xs) (zs := zs) (hcarry.flip hesc hflag) rfl (by simp only [hlen, List.length_nil]; omega)
  obtain ⟨d, x, hd, hdx⟩ := exists_payload_concat (bs := xs ++ (y ^^^ BitVec.twoPow 8 k) :: zs) (by rw [hlen]; omega)
  rw [hdx] at hfold hwire
  have hx : xorFold d ≠ x := by
    rintro rfl
    rw [xorFold_append, xorFold_single, BitVec.xor_self] at hfold
    exact twoPow_ne_zero hk hfold.symm
  have hcount : 4 + (stuff xs ++ pre ++ (w ^^^ BitVec.twoPow 8 k) :: stuff zs).length
      = (stuff xs ++ pre).length + (stuff zs).length + 5 := by
    simp only [List.length_append, List.length_cons]
    omega
  refine ⟨{ pState := .idle, pCtrl := cI c b, acc := [] }, d, x, ?_⟩
  rw [feed_damagedFrame h r hq b hd hx hwire, hcount]

/-! ### Resynchronisation (R152) -/

/-- After a FLAG the parser hunts for a frame, or takes the FLAG as a frame's first. -/
theorem parse_flag_hunts (c : Config) (ea : Byte) (q : Parser) :
    (q.parse c ea FLAG).1.pState = .idle ∨ (q.parse c ea FLAG).1.pState = .gotFlag := by
  cases hs : q.pState with
  | data => left; simp [Parser.parse, hs, closeFrame_parser]
  | _ => simp [Parser.parse, hs]

/-- Settles O17: a FLAG leaves any parser where it takes a whole frame of the peer. -/
theorem flagResynchronisesTheParser : Obligations.FlagResynchronisesTheParser := by
  intro c r q h
  have hq := parse_flag_hunts c (addr c r) q
  refine ⟨fun b p hp => ?_, fun f hf => ?_⟩
  · rw [feed_cons, feed_encodeI h r hq b hp]
    exact List.getLast?_concat (l := _ :: _)
  · rw [feed_cons, feed_controlFrame h r hq f hf]
    exact List.getLast?_concat (l := _ :: _)

/-! ### The step on a byte (R140, R141) -/

/-- A byte that completes no frame only writes the parser registers. -/
theorem step_incomplete_byte {s : State} {i : Input} {rest : List Input} {b : Byte} {q : Parser} {ev : ParserEvent}
    (hp : paramsOk s.par = true) (hin : s.input = i :: rest) (hb : i.event = .byte b) (hph : s.phase ≠ .idle)
    (hq : s.parseByte b = (q, ev)) (hnone : ev.instr s.par = none) :
    step s = .next ((s.take i rest).setParser q) := by
  have hq' : (s.take i rest).parseByte b = (q, ev) := hq
  have hnone' : ((s.take i rest).parseByte b).2.instr (s.take i rest).par = none := by rw [hq']; exact hnone
  rw [step_cons hp hin, hb, onEvent, onByte_without_frame (s := s.take i rest) hph hnone', hq']

/-- Settles O5: the parser step says whether the byte that is taken completes a frame. -/
theorem stepRunsTheDecodedFrame : Obligations.StepRunsTheDecodedFrame := by
  intro s rest b openOk closeOk p e hp hph hin hparse
  have hq : s.parseByte b = (p, e) := hparse
  constructor
  · intro i hi
    rw [step_completing_byte hp hin rfl hph hq hi]
    rfl
  · intro hnone
    rw [step_incomplete_byte hp hin rfl hph hq hnone]
    rfl

/-! ### A clean transfer (R150; 42_arq.md R214, R222) -/

theorem peer_peer (r : Role) : peer (peer r) = r := by cases r <;> rfl

section
variable {s : State}

/-- The bytes of the expected Information frame run `deliver` at an engine that waits for one. -/
theorem run_expectedInfoFrame {p : Bytes} (o k : Bool) (hp : paramsOk s.par = true) (hph : s.phase = .recvWaitI)
    (hd : payloadInRange s.par p = true) (hq : s.pState = .idle ∨ s.pState = .gotFlag) :
    core.run (encodeI s.par s.peerAddr s.nr p).length (s.fed (encodeI s.par s.peerAddr s.nr p) o k) =
      .next (State.deliver
        { s with input := [], openOk := o, closeOk := k, pState := .idle, pCtrl := cI s.par s.nr, acc := [] } p) := by
  have hinfo (t : State) : exec (infoInstr s.nr p (bcc2 p)) t = informationFrame s.nr p (bcc2 p) t := by
    cases s.nr <;> rfl
  refine run_infoFrame s.nr p o k hp (by simp [hph]) hd hq ?_
  have hcheck : xorFold p = bcc2 p := rfl
  simp [hinfo, informationFrame, hph, State.receiveInfo, infoLengthOk, hd, hcheck]

/-- The bytes of the RR that carries `!NS` run `send_acked` at an engine with a SEND pending. -/
theorem run_acknowledgement (o k : Bool) (hp : paramsOk s.par = true) (hph : s.phase = .sendWaitAck)
    (hq : s.pState = .idle ∨ s.pState = .gotFlag) :
    core.run 5 (s.fed (encodeC s.peerAddr (cRR s.par (!s.ns))) o k) =
      .next (State.sendAcked
        { s with input := [], openOk := o, closeOk := k, pState := .idle, pCtrl := cRR s.par (!s.ns) }) := by
  obtain ⟨i, hi, hrr⟩ : ∃ i, controlInstr (rrType (!s.ns)) = some i
      ∧ ∀ t, exec i t = acknowledgement (fun t => t.onRr (!s.ns)) t := by
    cases s.ns <;> exact ⟨_, rfl, fun _ => rfl⟩
  refine run_controlFrame o k hp (by simp [hph]) hi hq ?_
  simp [hrr, acknowledgement, hph, State.onRr, cRR]

end

/-- Settles O59: the bytes of the SEND run `deliver` at the peer, and those of its RR run `send_acked`. -/
theorem cleanTransferDeliversThePayload : Obligations.CleanTransferDeliversThePayload := by
  intro x y p o k hpar hypar hyrole hxph hp hlen hbuf hxq hyph hnr hyq
  have hsender : addr x.par x.role = y.peerAddr := by rw [State.peerAddr, hypar, hyrole, peer_peer]
  have hreceiver : addr y.par y.role = x.peerAddr := by rw [State.peerAddr, hypar, hyrole]
  have hrecv := run_expectedInfoFrame (p := p) o k (hypar ▸ hpar) hyph (hypar ▸ hp) hyq
  have hack := run_acknowledgement o k hpar hxph hxq
  rw [← hypar, ← hnr] at hack
  rw [hbuf, hsender, ← hypar, ← hnr, hreceiver]
  refine ⟨_, _, hrecv, rfl, rfl, rfl, ?_, hack, rfl, ?_, ?_⟩
  · rw [deliver_eq, hreceiver]
  · rw [sendAcked_eq, hlen]
  · rw [deliver_eq, sendAcked_eq, hnr]

end Sys2Proof.Machine
end

section
/-! PROOF. The statements of 41_connection.md: OPEN (R170 to R180), CLOSE (R190 to R199), the frames that a phase
discards (R182), and the attempts of a timed operation (R185 to R189). -/

namespace Sys2Proof.Machine

/-! ### Accepted commands (R170, R190; 42_arq.md R210) -/

section
variable {s : State}

theorem execOpen_accepted (hph : s.phase = .idle) (hc : s.conn = .closed) {n t : Nat} (hn : n < 2 ^ s.par.wRetx)
    (ht : t < 2 ^ s.par.wTimer) (r : Role) (ch rate : Nat) :
    exec (.openCmd r ch rate n t) s = .next (s.latchOpen r ch rate n t).openPort := by
  simp [exec, execOpen, hph, hc, openOperandsOk_iff.mpr ⟨hn, ht⟩]

theorem execOpen_wide (hph : s.phase = .idle) (hc : s.conn = .closed) {n t : Nat}
    (hwide : ¬(n < 2 ^ s.par.wRetx ∧ t < 2 ^ s.par.wTimer)) (r : Role) (ch rate : Nat) :
    exec (.openCmd r ch rate n t) s = .refused .operandOutOfRange := by
  simp [exec, execOpen, hph, hc, mt openOperandsOk_iff.mp hwide]

theorem execSend_accepted (hph : s.phase = .idle) (hc : s.conn = .connected) {p : Bytes}
    (hp : payloadInRange s.par p = true) : exec (.sendCmd p) s = .next (s.sendAccepted p) := by
  simp [exec, execSend, hph, hc, sendLengthOk, hp]

theorem execClose_accepted (hph : s.phase = .idle) (hc : s.conn = .connected) :
    exec .closeCmd s = .next s.closeAccepted := by
  simp [exec, execClose, hph, hc]

/-- An accepted SEND up to its first attempt. -/
theorem sendAccepted_eq (p : Bytes) : s.sendAccepted p =
    State.beginAttempts { s with
      txLen := p.length, txBuf := encodeI s.par (addr s.par s.role) s.ns p, attempts := 0, tmrArmed := false,
      pState := .idle, acc := [] } .send := rfl

/-- An accepted CLOSE as Initiator up to its first attempt. -/
theorem closeAccepted_initiator (hr : s.role = .initiator) : s.closeAccepted =
    State.beginAttempts { s with
      attempts := 0, tmrArmed := false, pState := .idle, acc := [],
      txBuf := encodeC s.par.aI s.par.cDisc } .closeI := by
  rw [closeAccepted_eq, if_pos hr]
  rfl

/-- An accepted CLOSE as Responder after the peer's DISC, up to its first attempt. -/
theorem closeAccepted_responder_seen (hr : s.role = .responder) (hd : s.discSeen = true) : s.closeAccepted =
    State.beginAttempts { s with
      attempts := 0, tmrArmed := false, pState := .idle, acc := [], discSeen := false,
      txBuf := encodeC s.par.aR s.par.cDisc } .closeR := by
  rw [closeAccepted_eq, if_neg (by simp [hr])]
  exact if_pos hd

/-- An accepted CLOSE as Responder that has still to see the peer's DISC. -/
theorem closeAccepted_responder_unseen (hr : s.role = .responder) (hd : s.discSeen = false) : s.closeAccepted =
    { s with attempts := 0, tmrArmed := false, pState := .idle, acc := [], phase := .closeRWaitDisc } := by
  rw [closeAccepted_eq, if_neg (by simp [hr])]
  exact if_neg (by simp [hd])

end

/-! ### OPEN, SEND and CLOSE (R170, R171, R177, R189 to R196) -/

/-- Settles O27: the operands are latched, the port opens and `begin_attempts` has a budget. -/
theorem openInitiatorSendsSet : Obligations.OpenInitiatorSendsSet := by
  intro ch rate n t s hph hc hn ht hport hbudget
  rw [execOpen_accepted hph hc hn ht, latchOpen_eq, openPort_eq]
  simp [hport, State.openInitiator, beginAttempts_pos, hbudget, TimedPhase.phase, State.emit, encodeC]

/-- Settles O28: the port opens, and a Responder makes no attempt. -/
theorem openResponderWaitsForSet : Obligations.OpenResponderWaitsForSet := by
  intro ch rate n t s hph hc hn ht hport
  rw [execOpen_accepted hph hc hn ht, latchOpen_eq, openPort_eq]
  simp [hport, State.emit]

/-- Settles O29: the port's answer is read before the role, and the operands before the port. -/
theorem openReportsAFailedPortAndRefusesWideOperands : Obligations.OpenReportsAFailedPortAndRefusesWideOperands := by
  intro r ch rate n t s hph hc
  constructor
  · intro hn ht hport
    rw [execOpen_accepted hph hc hn ht, latchOpen_eq, openPort_eq]
    simp [hport, State.emit, State.fail, State.respond]
  · intro hwide
    exact execOpen_wide hph hc (by omega) r ch rate

/-- Settles O30: `begin_attempts` with no budget runs `exhausted` of the operation's timed phase. -/
theorem emptyBudgetEndsAtOnce : Obligations.EmptyBudgetEndsAtOnce := by
  refine ⟨?_, ?_, ?_⟩
  · intro ch rate t s hph hc ht hport
    rw [execOpen_accepted hph hc (Nat.two_pow_pos _) ht, latchOpen_eq, openPort_eq]
    simp [hport, State.openInitiator, beginAttempts_zero, exhausted_eq, State.emit, encodeC]
  · intro p s hph hc hp hn
    rw [execSend_accepted hph hc hp, sendAccepted_eq]
    simp [beginAttempts_zero, hn, exhausted_eq, hph]
  · intro s hph hc hn hpath
    rw [execClose_accepted hph hc]
    cases hr : s.role with
    | initiator =>
      simp [closeAccepted_initiator hr, beginAttempts_zero, hn, exhausted_eq, hph, hr, addr]
    | responder =>
      have hd : s.discSeen = true := by simpa [hr] using hpath
      simp [closeAccepted_responder_seen hr hd, beginAttempts_zero, hn, exhausted_eq, hph, hr, addr]

/-- Settles O33: the Initiator's path does not read `DISC_SEEN`. -/
theorem closeInitiatorSendsDisc : Obligations.CloseInitiatorSendsDisc := by
  intro s hph hc hr hn
  rw [execClose_accepted hph hc, closeAccepted_initiator hr]
  simp [beginAttempts_pos, hn, TimedPhase.phase, encodeC]

/-- Settles O34: `DISC_SEEN` chooses between the Responder's DISC and the wait for the peer's. -/
theorem closeResponderAnswersTheDisc : Obligations.CloseResponderAnswersTheDisc := by
  intro s hph hc hr
  rw [execClose_accepted hph hc]
  constructor
  · intro hd hn
    rw [closeAccepted_responder_seen hr hd]
    simp [beginAttempts_pos, hn, TimedPhase.phase, encodeC]
  · intro hd
    rw [closeAccepted_responder_unseen hr hd]

/-! ### SET, UA and DISC where they are awaited (R178, R172, R192, R195, R197) -/

/-- Settles O37: the UA goes out before `established_responder`. -/
theorem setConnectsTheResponder : Obligations.SetConnectsTheResponder := by
  intro s hph
  have hset : exec .set s = .next (s.emit (.tx (encodeC s.par.aR s.par.cUa))).establishedResponder := by
    simp [exec, execSet, hph]
  rw [hset, establishedResponder_eq]
  simp [State.emit, encodeC]

/-- Settles O38: the phase runs `established_initiator`. -/
theorem uaConnectsTheInitiator : Obligations.UaConnectsTheInitiator := by
  intro s hph
  have hua : exec .ua s = .next s.establishedInitiator := by simp [exec, execUa, hph]
  rw [hua, establishedInitiator_eq]

/-- Settles O39: the phase runs `finish_close(OK(0))`. -/
theorem uaEndsTheRespondersClose : Obligations.UaEndsTheRespondersClose := by
  intro s hph
  have hua : exec .ua s = .next (s.disarm.finishClose (.ok 0)) := by simp [exec, execUa, hph]
  rw [hua, finishClose_eq, closeResult_ok]
  rfl

/-- Settles O40: the final UA goes out before `finish_close(OK(0))`. -/
theorem discEndsTheInitiatorsClose : Obligations.DiscEndsTheInitiatorsClose := by
  intro s hph
  have hdisc : exec .disc s =
      .next ((s.disarm.emit (.tx (encodeC s.par.aI s.par.cUa))).finishClose (.ok 0)) := by
    simp [exec, execDisc, hph]
  rw [hdisc, finishClose_eq, closeResult_ok, emit_out, List.append_assoc]
  rfl

/-- Settles O41: the phase runs `responder_disc`, whose `begin_attempts` ends the CLOSE when the budget is empty. -/
theorem discStartsTheRespondersDisc : Obligations.DiscStartsTheRespondersDisc := by
  intro s hph
  have hdisc : exec .disc s = .next s.responderDisc := by simp [exec, execDisc, hph]
  rw [hdisc, State.responderDisc]
  constructor
  · intro hn
    simp [beginAttempts_pos, hn, TimedPhase.phase, encodeC]
  · intro hn
    simp [beginAttempts_zero, hn, exhausted_eq, encodeC]

/-! ### Frames that the phase does not await (R182; 42_arq.md R216, R226) -/

section
variable {s : State}

theorem informationFrame_discarded (hbusy : s.phase ≠ .idle) (hwait : s.phase ≠ .recvWaitI) (b : Bit) (d : Bytes)
    (x : Byte) : informationFrame b d x s = .next s := by
  cases hph : s.phase <;> simp_all [informationFrame]

theorem acknowledgement_discarded (hbusy : s.phase ≠ .idle) {f : State → State}
    (hwait : s.phase = .sendWaitAck → f s = s) : acknowledgement f s = .next s := by
  cases hph : s.phase <;> simp_all [acknowledgement]

theorem execSet_discarded (hbusy : s.phase ≠ .idle) (hwait : s.phase ≠ .openRWaitSet) : execSet s = .next s := by
  cases hph : s.phase <;> simp_all [execSet]

theorem execUa_discarded (hbusy : s.phase ≠ .idle) (hopen : s.phase ≠ .openIWaitUa) (hclose : s.phase ≠ .closeRWaitUa) :
    execUa s = .next s := by
  cases hph : s.phase <;> simp_all [execUa]

theorem execDisc_discarded (hbusy : s.phase ≠ .idle) (hcloseI : s.phase ≠ .closeIWaitDisc)
    (hcloseR : s.phase ≠ .closeRWaitDisc) (hrecv : s.phase ≠ .recvWaitI) : execDisc s = .next s := by
  cases hph : s.phase <;> simp_all [execDisc]

theorem onRr_other {b : Bit} (hb : s.ns = b) : s.onRr b = s := if_neg (by simp [hb])

theorem onRej_other {b : Bit} (hb : s.ns = !b) : s.onRej b = s := if_neg (by simp [hb])

end

/-- Settles O48, by the frame: each meaning is read in its own phases, and an RR or REJ also for its own bit only. -/
theorem unawaitedFramesAreDiscarded : Obligations.UnawaitedFramesAreDiscarded := by
  intro i s hframe hbusy hwait
  cases i with
  | set => exact execSet_discarded hbusy (by simpa [awaits] using hwait)
  | ua =>
    obtain ⟨hopen, hclose⟩ : s.phase ≠ .openIWaitUa ∧ s.phase ≠ .closeRWaitUa := by simpa [awaits] using hwait
    exact execUa_discarded hbusy hopen hclose
  | disc =>
    obtain ⟨⟨hcloseI, hcloseR⟩, hrecv⟩ :
        (s.phase ≠ .closeIWaitDisc ∧ s.phase ≠ .closeRWaitDisc) ∧ s.phase ≠ .recvWaitI := by
      simpa [awaits] using hwait
    exact execDisc_discarded hbusy hcloseI hcloseR hrecv
  | i0 d x => exact informationFrame_discarded hbusy (by simpa [awaits] using hwait) false d x
  | i1 d x => exact informationFrame_discarded hbusy (by simpa [awaits] using hwait) true d x
  | rr0 => exact acknowledgement_discarded hbusy fun hph => onRr_other (by simpa [awaits, hph] using hwait)
  | rr1 => exact acknowledgement_discarded hbusy fun hph => onRr_other (by simpa [awaits, hph] using hwait)
  | rej0 => exact acknowledgement_discarded hbusy fun hph => onRej_other (by simpa [awaits, hph] using hwait)
  | rej1 => exact acknowledgement_discarded hbusy fun hph => onRej_other (by simpa [awaits, hph] using hwait)
  | _ => exact absurd rfl hframe

/-! ### The OPEN handshake (R172, R174, R178, R180) -/

/-- Settles O60: the bytes of the SET run `SET` at the Responder, and those of its UA run `UA` at the Initiator. -/
theorem openHandshakeConnectsBothEnds : Obligations.OpenHandshakeConnectsBothEnds := by
  intro x y o k hpar hypar hxrole hyrole hxph hbuf hxq hyph hyq
  have hinitiator : y.peerAddr = y.par.aI := by rw [State.peerAddr, hyrole]; rfl
  have hresponder : x.peerAddr = x.par.aR := by rw [State.peerAddr, hxrole]; rfl
  have hset := run_controlFrame (f := .set) o k (hypar ▸ hpar) (by simp [hyph]) rfl hyq
    (setConnectsTheResponder _ hyph)
  have hua := run_controlFrame (f := .ua) o k hpar (by simp [hxph]) rfl hxq (uaConnectsTheInitiator _ hxph)
  rw [hinitiator] at hset
  rw [hresponder, ← hypar] at hua
  rw [hbuf, ← hypar]
  exact ⟨_, _, hset, rfl, hua, rfl, ⟨rfl, rfl, rfl, rfl⟩, rfl, rfl, rfl, rfl⟩

/-! ### The timer of an attempt (R187; 43_timeout.md R254) -/

section
variable {s : State} {p : TimedPhase}

theorem onTick_counts (hph : s.phase = p.phase) (harmed : s.tmrArmed = true) (hleft : 1 < s.tmrRem) :
    s.onTick = { s with tmrRem := s.tmrRem - 1 } := by
  simp [State.onTick, hph, timed_of_phase, State.fires, harmed, tick_counts harmed hleft, Nat.not_le.mpr hleft]

theorem onTick_fires (hph : s.phase = p.phase) (harmed : s.tmrArmed = true) (hlast : s.tmrRem ≤ 1) :
    s.onTick = State.onTimeout { s with tmrArmed := false, tmrRem := 0 } p := by
  simp [State.onTick, hph, timed_of_phase, State.fires, harmed, tick_last harmed hlast, hlast]

theorem onTimeout_spent (hspent : s.cfgN ≤ s.attempts) : s.onTimeout p = s.exhausted p :=
  if_neg (Nat.not_lt.mpr hspent)

theorem onTimeout_left (hleft : s.attempts < s.cfgN) : s.onTimeout p = s.startAttempt := if_pos hleft

theorem step_tick {i : Input} {rest : List Input} (hp : paramsOk s.par = true) (hin : s.input = i :: rest)
    (ht : i.event = .tick) : step s = .next (s.take i rest).onTick := by
  rw [step_cons hp hin, ht]
  rfl

theorem step_tick_fires {i : Input} {rest : List Input} (hp : paramsOk s.par = true) (hin : s.input = i :: rest)
    (ht : i.event = .tick) (hph : s.phase = p.phase) (harmed : s.tmrArmed = true) (hlast : s.tmrRem ≤ 1) :
    step s = .next (State.onTimeout { s with
      input := rest, openOk := i.openOk, closeOk := i.closeOk, tmrArmed := false, tmrRem := 0 } p) := by
  rw [step_tick hp hin ht, onTick_fires (s := s.take i rest) hph harmed hlast]
  rfl

end

/-- Settles O25: a timer that fires in a timed phase runs `on_timeout`, which has attempts left. -/
theorem timeoutRetransmits : Obligations.TimeoutRetransmits := by
  intro s rest openOk closeOk hp htimed hin harmed hlast hleft
  obtain ⟨p, hph⟩ : ∃ p, s.phase.timed? = some p := Option.ne_none_iff_exists'.mp htimed
  exact (step_tick_fires hp hin rfl (phase_of_timed hph) harmed hlast).trans (congrArg _ (onTimeout_left hleft))

/-- Settles O26: a timer that fires with the budget spent runs `exhausted` of its phase. -/
theorem timeoutExhaustsTheBudget : Obligations.TimeoutExhaustsTheBudget := by
  intro s rest openOk closeOk hp hin harmed hlast hspent
  have hstep {p : TimedPhase} (hph : s.phase = p.phase) :=
    (step_tick_fires hp hin rfl hph harmed hlast).trans (congrArg _ (onTimeout_spent hspent))
  refine ⟨fun hph => ?_, fun hph => ?_, fun hph => ?_⟩
  · rw [hstep (p := .openI) hph, exhausted_eq]
  · rw [hstep (p := .send) hph, exhausted_eq]
  · rcases hph with hph | hph
    · rw [hstep (p := .closeI) hph, exhausted_eq]
    · rw [hstep (p := .closeR) hph, exhausted_eq]

/-! ### A silent channel (R187, R188) -/

section
variable {s : State} {p : TimedPhase}

theorem attemptTicks_pos (s : State) : 0 < s.attemptTicks := Nat.lt_of_lt_of_le Nat.one_pos (Nat.le_max_right ..)

/-- Within an attempt the ticks only count down. -/
theorem iterate_onTick_counts (hph : s.phase = p.phase) (harmed : s.tmrArmed = true) (hfresh : s.tmrRem = s.cfgT)
    {j : Nat} (hj : j < s.attemptTicks) : State.onTick^[j] s = { s with tmrRem := s.tmrRem - j } := by
  induction j with
  | zero => rfl
  | succ j ih =>
    have hleft : 1 < s.tmrRem - j := by simp only [State.attemptTicks] at hj; omega
    rw [Function.iterate_succ_apply', ih (by omega)]
    exact onTick_counts (s := { s with tmrRem := s.tmrRem - j }) hph harmed hleft

/-- The last tick of an attempt runs `on_timeout`. -/
theorem iterate_onTick_attempt (hph : s.phase = p.phase) (harmed : s.tmrArmed = true) (hfresh : s.tmrRem = s.cfgT) :
    State.onTick^[s.attemptTicks] s = State.onTimeout { s with tmrArmed := false, tmrRem := 0 } p := by
  obtain ⟨j, hj⟩ : ∃ j, s.attemptTicks = j + 1 := Nat.exists_eq_add_one.mpr (attemptTicks_pos s)
  have hlast : s.tmrRem - j ≤ 1 := by simp only [State.attemptTicks] at hj; omega
  rw [hj, Function.iterate_succ_apply', iterate_onTick_counts hph harmed hfresh (by omega)]
  exact onTick_fires (s := { s with tmrRem := s.tmrRem - j }) hph harmed hlast

/-- `s`, whose timer is just armed, `a` attempts later. -/
def State.retried (s : State) (a : Nat) : State :=
  { s with attempts := s.attempts + a, out := s.out ++ List.replicate a (.tx s.txBuf) }

theorem retried_succ (harmed : s.tmrArmed = true) (hfresh : s.tmrRem = s.cfgT) (a : Nat) :
    State.startAttempt { s.retried a with tmrArmed := false, tmrRem := 0 } = s.retried (a + 1) := by
  simp [startAttempt_eq, State.retried, List.replicate_succ', Nat.add_assoc, harmed, ← hfresh]

/-- While attempts are left, each one that ends retransmits. -/
theorem iterate_onTick_retries (hph : s.phase = p.phase) (harmed : s.tmrArmed = true) (hfresh : s.tmrRem = s.cfgT)
    {a : Nat} (ha : s.attempts + a ≤ s.cfgN) : State.onTick^[a * s.attemptTicks] s = s.retried a := by
  induction a with
  | zero => simp [State.retried]
  | succ a ih =>
    have hleft : s.attempts + a < s.cfgN := by omega
    calc State.onTick^[(a + 1) * s.attemptTicks] s
        = State.onTick^[(s.retried a).attemptTicks] (s.retried a) := by
          rw [Nat.succ_mul, Nat.add_comm, Function.iterate_add_apply, ih (by omega)]
          rfl
      _ = State.onTimeout { s.retried a with tmrArmed := false, tmrRem := 0 } p :=
          iterate_onTick_attempt hph harmed hfresh
      _ = State.startAttempt { s.retried a with tmrArmed := false, tmrRem := 0 } := onTimeout_left hleft
      _ = s.retried (a + 1) := retried_succ harmed hfresh a

/-- Before its last attempt ends, an operation has retransmitted once for each attempt that has ended. -/
theorem iterate_onTick_before_end (hph : s.phase = p.phase) (harmed : s.tmrArmed = true) (hfresh : s.tmrRem = s.cfgT)
    (hbudget : s.attempts ≤ s.cfgN) {m : Nat} (hm : m < (s.cfgN - s.attempts + 1) * s.attemptTicks) :
    State.onTick^[m] s =
      { s.retried (m / s.attemptTicks) with tmrRem := s.tmrRem - m % s.attemptTicks } := by
  have hmade : m / s.attemptTicks < s.cfgN - s.attempts + 1 := Nat.div_lt_of_lt_mul (Nat.mul_comm .. ▸ hm)
  calc State.onTick^[m] s
      = State.onTick^[m % s.attemptTicks] (State.onTick^[m / s.attemptTicks * s.attemptTicks] s) := by
        rw [← Function.iterate_add_apply, Nat.mul_comm, Nat.mod_add_div]
    _ = State.onTick^[m % s.attemptTicks] (s.retried (m / s.attemptTicks)) := by
        rw [iterate_onTick_retries hph harmed hfresh (by omega)]
    _ = { s.retried (m / s.attemptTicks) with tmrRem := s.tmrRem - m % s.attemptTicks } :=
        iterate_onTick_counts (s := s.retried _) hph harmed hfresh (Nat.mod_lt m (attemptTicks_pos s))

/-- The end of the last attempt ends the operation. -/
theorem iterate_onTick_exhausted (hph : s.phase = p.phase) (harmed : s.tmrArmed = true) (hfresh : s.tmrRem = s.cfgT)
    (hbudget : s.attempts ≤ s.cfgN) :
    State.onTick^[(s.cfgN - s.attempts + 1) * s.attemptTicks] s =
      State.exhausted { s.retried (s.cfgN - s.attempts) with tmrArmed := false, tmrRem := 0 } p := by
  have hspent : s.cfgN ≤ s.attempts + (s.cfgN - s.attempts) := by omega
  rw [Nat.succ_mul, Nat.add_comm, Function.iterate_add_apply, iterate_onTick_retries hph harmed hfresh (by omega)]
  exact (iterate_onTick_attempt (s := s.retried _) hph harmed hfresh).trans (onTimeout_spent hspent)

/-! ### Runs of silent ticks -/

/-- `s` in a step whose port answers are `o` and `k`. -/
def State.answered (s : State) (o k : Bool) : State := { s with openOk := o, closeOk := k }

theorem exhausted_ticked (n : Nat) (o k : Bool) : (s.ticked n o k).exhausted p = (s.exhausted p).ticked n o k := by
  cases p <;> rfl

theorem onTimeout_ticked (n : Nat) (o k : Bool) : (s.ticked n o k).onTimeout p = (s.onTimeout p).ticked n o k := by
  simp only [State.onTimeout]
  rw [apply_ite (State.ticked · n o k)]
  exact if_congr Iff.rfl rfl (exhausted_ticked n o k)

theorem tick_ticked (n : Nat) (o k : Bool) : (s.ticked n o k).tick = s.tick.ticked n o k := by
  rw [tick_eq, tick_eq]
  rfl

/-- What a `TICK` writes does not depend on the events behind it. -/
theorem onTick_ticked (n : Nat) (o k : Bool) : (s.ticked n o k).onTick = s.onTick.ticked n o k := by
  have hphase : (s.ticked n o k).phase = s.phase := rfl
  simp only [State.onTick, hphase, tick_ticked, onTimeout_ticked]
  cases s.phase.timed? with
  | none => exact (apply_ite (State.ticked · n o k) ..).symm
  | some q => exact (apply_ite (State.ticked · n o k) ..).symm

theorem TickEffect.answered_eq {t : State} (e : TickEffect s t) : t.answered s.openOk s.closeOk = t := by
  cases e <;> rfl

theorem step_ticked (n : Nat) (o k : Bool) (hp : paramsOk s.par = true) :
    step (s.ticked (n + 1) o k) = .next ((s.answered o k).onTick.ticked n o k) := by
  rw [step_tick (s := s.ticked (n + 1) o k) hp (List.replicate_succ ..) rfl, ← onTick_ticked]
  rfl

/-- Over a silent channel `m` steps run `onTick` `m` times. -/
theorem run_ticked (m n : Nat) (o k : Bool) (hp : paramsOk s.par = true) :
    core.run (m + 1) (s.ticked (m + 1 + n) o k) = .next ((State.onTick^[m + 1] (s.answered o k)).ticked n o k) := by
  induction m generalizing s with
  | zero =>
    rw [Nat.zero_add, Nat.add_comm 1 n, run_succ 0 (step_ticked n o k hp)]
    rfl
  | succ m ih =>
    have heffect := onTick_effect (s.answered o k)
    have hkept : (s.answered o k).onTick.answered o k = (s.answered o k).onTick := heffect.answered_eq
    rw [Nat.add_right_comm (m + 1) 1 n, run_succ _ (step_ticked _ o k hp), ih (heffect.par_eq ▸ hp), hkept]
    rfl

end

/-- Settles O57: each attempt lasts `max(CFG_T, 1)` ticks, the last of which retransmits while attempts are left. -/
theorem retriesExhaustExactly : Obligations.RetriesExhaustExactly := by
  intro s p o k hp hph hmade hbudget harmed hfresh total
  have hbefore {m : Nat} (hm : m < total) :=
    iterate_onTick_before_end (s := s.answered o k) hph harmed hfresh hbudget hm
  have hend : State.onTick^[total] (s.answered o k) = _ :=
    iterate_onTick_exhausted (s := s.answered o k) hph harmed hfresh hbudget
  constructor
  · obtain ⟨m, hm⟩ : ∃ m, total = m + 1 :=
      Nat.exists_eq_add_one.mpr (Nat.mul_pos (Nat.succ_pos _) (attemptTicks_pos s))
    have hspent : s.attempts + (s.cfgN - s.attempts) = s.cfgN := by omega
    have hrun := run_ticked (s := s) m 0 o k hp
    rw [Nat.add_zero, ← hm] at hrun
    rw [hrun, hend, ← exhausted_ticked]
    simp [State.retried, State.answered, State.ticked, hspent]
  · intro m hm
    cases m with
    | zero => exact ⟨_, rfl, hph, by simp [State.ticked]⟩
    | succ m =>
      obtain ⟨n, hn⟩ : ∃ n, total = m + 1 + n := Nat.exists_eq_add_of_le hm.le
      refine ⟨_, hn ▸ run_ticked m n o k hp, ?_, ?_⟩
      · rw [hbefore hm]
        exact hph
      · rw [hbefore hm]
        rfl

end Sys2Proof.Machine
end

section
/-! PROOF. The statements of 42_arq.md: SEND and RECEIVE (R210, R220), the frames that each awaits (R214 to R217, R222 to
R225), what a pending SEND transmits (R218) and what a receiver delivers (R228). -/

namespace Sys2Proof.Machine

/-! ### SEND and RECEIVE (R210, R220) -/

/-- Settles O31: the frame is encoded before `begin_attempts`, which has a budget. -/
theorem sendTransmitsTheFrame : Obligations.SendTransmitsTheFrame := by
  intro p s hph hc hmin hmax hn
  rw [execSend_accepted hph hc (payloadInRange_iff.mpr ⟨hmin, hmax⟩), sendAccepted_eq]
  simp [beginAttempts_pos, hn, TimedPhase.phase]

theorem execReceive_accepted {s : State} (hph : s.phase = .idle) (hc : s.conn = .connected) :
    exec .receiveCmd s = .next s.receiveAccepted := by
  simp [exec, execReceive, hph, hc]

/-- Settles O32: an accepted RECEIVE disarms the timer and resets the parser before it waits. -/
theorem receiveWaitsForAFrame : Obligations.ReceiveWaitsForAFrame := by
  intro s hph hc
  rw [execReceive_accepted hph hc, receiveAccepted_eq]

/-! ### Frames that RECEIVE awaits (R222 to R225) -/

/-- Settles O42: the phase runs `peer_closing`. -/
theorem discEndsReceive : Obligations.DiscEndsReceive := by
  intro s hph
  have hdisc : exec .disc s = .next s.peerClosing := by simp [exec, execDisc, hph]
  rw [hdisc, peerClosing_eq]

section
variable {s : State}

theorem exec_infoInstr (hph : s.phase = .recvWaitI) (b : Bit) (d : Bytes) (x : Byte) :
    exec (infoInstr b d x) s = .next (s.receiveInfo b d x) := by
  have hinfo : exec (infoInstr b d x) s = informationFrame b d x s := by cases b <;> rfl
  simp [hinfo, informationFrame, hph]

theorem receiveInfo_expected {d : Bytes} (hd : payloadInRange s.par d = true) :
    s.receiveInfo s.nr d (bcc2 d) = s.deliver d := by
  simp [State.receiveInfo, infoLengthOk, hd, bcc2]

theorem receiveInfo_duplicate {d : Bytes} (hd : payloadInRange s.par d = true) {b : Bit} (hb : b ≠ s.nr) :
    s.receiveInfo b d (bcc2 d) = s.duplicate := by
  simp [State.receiveInfo, infoLengthOk, hd, bcc2, hb]

theorem receiveInfo_damaged {d : Bytes} (hd : payloadInRange s.par d = true) (b : Bit) {x : Byte} (hx : x ≠ bcc2 d) :
    s.receiveInfo b d x = s.reject := by
  have hcheck : xorFold d ≠ x := hx.symm
  simp [State.receiveInfo, infoLengthOk, hd, hcheck]

/-- An I-frame is delivered, which takes the expected bit and a BCC2 that holds, or RECEIVE goes on scanning. -/
theorem receiveInfo_cases (s : State) (b : Bit) (d : Bytes) (x : Byte) :
    (x = bcc2 d ∧ b = s.nr ∧ s.receiveInfo b d x = s.deliver d)
      ∨ ∃ as : List Action, s.receiveInfo b d x = { s with out := as } := by
  unfold State.receiveInfo
  split
  · split
    · rename_i hx
      split
      · rename_i hb
        exact .inl ⟨hx.symm, hb, rfl⟩
      · exact .inr ⟨_, duplicate_eq s⟩
    · exact .inr ⟨_, reject_eq s⟩
  · exact .inr ⟨s.out, rfl⟩

end

/-- Settles O43: the check and the bit hold, so the phase runs `deliver`. -/
theorem infoFrameIsDelivered : Obligations.InfoFrameIsDelivered := by
  intro s d hph hmin hmax
  have hdeliver (b : Bit) (hb : s.nr = b) : exec (infoInstr b d (bcc2 d)) s = .next { s with
      rxBuf := d, nr := !b, phase := .idle,
      out := s.out ++ [.tx (encodeC (addr s.par s.role) (cRR s.par (!b))), .resp (.ok d.length)] } := by
    subst hb
    rw [exec_infoInstr hph, receiveInfo_expected (payloadInRange_iff.mpr ⟨hmin, hmax⟩), deliver_eq]
  exact ⟨hdeliver false, hdeliver true⟩

/-- Settles O44: the check holds and the bit is the other one, so the phase runs `duplicate`. -/
theorem duplicateIsReacknowledged : Obligations.DuplicateIsReacknowledged := by
  intro s d hph hmin hmax
  have hduplicate (b : Bit) (hb : s.nr = b) : exec (infoInstr (!b) d (bcc2 d)) s = .next { s with
      out := s.out ++ [.tx (encodeC (addr s.par s.role) (cRR s.par b))] } := by
    subst hb
    rw [exec_infoInstr hph, receiveInfo_duplicate (payloadInRange_iff.mpr ⟨hmin, hmax⟩) (by simp), duplicate_eq]
  exact ⟨hduplicate true, hduplicate false⟩

/-- Settles O45: the check comes before the bit, so the phase runs `reject`. -/
theorem damagedInfoFrameIsRejected : Obligations.DamagedInfoFrameIsRejected := by
  intro s b d x hph hmin hmax hx
  rw [exec_infoInstr hph, receiveInfo_damaged (payloadInRange_iff.mpr ⟨hmin, hmax⟩) b hx, reject_eq]
  cases s.nr <;> rfl

/-! ### Frames that SEND awaits (R214, R215, R217) -/

theorem acknowledgement_awaited {s : State} (hph : s.phase = .sendWaitAck) (f : State → State) :
    acknowledgement f s = .next (f s) := by
  simp [acknowledgement, hph]

/-- Settles O46: the RR carries `!NS`, so the phase runs `send_acked`. -/
theorem rrAcknowledgesTheSend : Obligations.RrAcknowledgesTheSend := by
  intro s hph
  have hacked (b : Bit) (hb : s.ns = b) : acknowledgement (fun t => t.onRr (!b)) s = .next { s with
      tmrArmed := false, ns := !b, phase := .idle, out := s.out ++ [.resp (.ok s.txLen)] } := by
    subst hb
    rw [acknowledgement_awaited hph, State.onRr, if_pos rfl, sendAcked_eq]
  exact ⟨hacked true, hacked false⟩

/-- Settles O47: the REJ carries `NS`, so the phase runs `send_rejected`, which asks for the budget. -/
theorem rejRetransmitsWithinTheBudget : Obligations.RejRetransmitsWithinTheBudget := by
  intro s i hph hbit
  have hrejected : exec i s = .next s.sendRejected := by
    have hrej : exec i s = acknowledgement (fun t => t.onRej s.ns) s := by
      obtain ⟨hns, rfl⟩ | ⟨hns, rfl⟩ := hbit <;> rw [hns] <;> rfl
    rw [hrej, acknowledgement_awaited hph, State.onRej, if_pos rfl]
  rw [hrejected, sendRejected_eq]
  constructor
  · intro hleft
    rw [if_pos hleft]
  · intro hspent
    rw [if_neg (Nat.not_lt.mpr hspent)]

/-! ### A pending SEND (R218) -/

section
variable {s u : State}

/-- What may follow a pending SEND: `TXBUF` stays, and the SEND goes on in silence or with `TXBUF` sent once more, or ends
with its answer alone. -/
def FollowsSend (s u : State) : Prop :=
  u.txBuf = s.txBuf
    ∧ (u.phase = .sendWaitAck ∧ u.ns = s.ns ∧ (u.out = s.out ∨ u.out = s.out ++ [.tx s.txBuf])
      ∨ u.phase = .idle ∧ ∃ r : Result, u.out = s.out ++ [.resp r])

theorem FollowsSend.refl (hph : s.phase = .sendWaitAck) : FollowsSend s s := ⟨rfl, .inl ⟨hph, rfl, .inl rfl⟩⟩

/-- A pending SEND discards a frame, or takes an RR or a REJ. -/
theorem Effect.followsSend {i : Instr} (e : Effect s i u) (hph : s.phase = .sendWaitAck) : FollowsSend s u := by
  cases e
  case discarded => exact .refl hph
  case acknowledged => exact ⟨rfl, .inr ⟨rfl, _, rfl⟩⟩
  case rejectedAgain => exact ⟨rfl, .inl ⟨hph, rfl, .inr rfl⟩⟩
  case rejectedSpent => exact ⟨rfl, .inr ⟨rfl, _, rfl⟩⟩
  all_goals simp_all only [reduceCtorEq]

/-- A `TICK` counts down a pending SEND, or is its timeout. -/
theorem TickEffect.followsSend (e : TickEffect s u) (hph : s.phase = .sendWaitAck) : FollowsSend s u := by
  cases e
  case nothing => exact .refl hph
  case counts => exact ⟨rfl, .inl ⟨hph, rfl, .inl rfl⟩⟩
  case retransmitted => exact ⟨rfl, .inl ⟨hph, rfl, .inr rfl⟩⟩
  case sendExhausted => exact ⟨rfl, .inr ⟨rfl, _, rfl⟩⟩
  all_goals simp_all only [reduceCtorEq, or_self]

theorem step_followsSend (hph : s.phase = .sendWaitAck) (hs : step s = .next u) : FollowsSend s u := by
  obtain ⟨-, ⟨-, rfl⟩ | ⟨i, rest, t, -, rfl, hstep⟩⟩ := step_effect hs
  · exact .refl hph
  obtain ⟨b, o, c, -, -, -, e⟩ | ⟨b, c, -, -, -, e⟩ | ⟨b, -, -, rfl⟩ | ⟨-, -, rfl⟩ | ⟨-, e⟩ := hstep
  · exact e.followsSend hph
  · exact e.followsSend hph
  · exact .refl hph
  · exact .refl hph
  · exact e.followsSend hph

end

/-- Settles O54: R46 item 6 says what `TXBUF` holds, and every event of a step follows the pending SEND. -/
theorem sendTransmitsOnlyItsOneFrame : Obligations.SendTransmitsOnlyItsOneFrame := by
  intro s s' h hph hs
  obtain ⟨hbuf, hends⟩ := step_followsSend hph hs
  obtain ⟨p, hp, -, hframe⟩ := h.one_outstanding hph
  exact ⟨hbuf, ⟨p, hp, hframe⟩, hends⟩

/-! ### A receiver over a channel that keeps order (R228) -/

section
variable {s : State}

/-- A Connection on which a RECEIVE is pending, or the host may issue one. -/
def CanReceive (s : State) : Prop := s.conn = .connected ∧ (s.phase = .idle ∨ s.phase = .recvWaitI)

/-- The RECEIVE that the host keeps pending meets the frame, and has not moved `NR`. -/
theorem CanReceive.receiving_eq (h : CanReceive s) :
    ∃ t, t.phase = .recvWaitI ∧ t.conn = .connected ∧ t.nr = s.nr ∧ ∀ i, s.receiving i = exec i t := by
  obtain ⟨hc, hph | hph⟩ := h
  · exact ⟨s.receiveAccepted, rfl, hc, rfl, fun i => by simp [State.receiving, hph, execReceive_accepted hph hc]⟩
  · exact ⟨s, hph, hc, rfl, fun i => by simp [State.receiving, hph]⟩

/-- What an I-frame does at a receiver: it is delivered, with the expected bit and a BCC2 that holds, and complements
`NR`; or the receiver goes on waiting with the same `NR`. -/
theorem CanReceive.receiving_info (h : CanReceive s) (b : Bit) (d : Bytes) (x : Byte) :
    ∃ t, s.receiving (infoInstr b d x) = .next t ∧ CanReceive t ∧
      ((x = bcc2 d ∧ b = s.nr ∧ t.phase = .idle ∧ t.rxBuf = d ∧ t.nr = !s.nr)
        ∨ (t.phase ≠ .idle ∧ t.nr = s.nr)) := by
  obtain ⟨r, hph, hc, hnr, hrecv⟩ := h.receiving_eq
  refine ⟨r.receiveInfo b d x, by rw [hrecv, exec_infoInstr hph], ?_⟩
  obtain ⟨hx, hb, hdeliver⟩ | ⟨as, hscans⟩ := receiveInfo_cases r b d x
  · rw [hdeliver, deliver_eq]
    exact ⟨⟨hc, .inl rfl⟩, .inl ⟨hx, hb.trans hnr, rfl, rfl, by rw [hnr]⟩⟩
  · rw [hscans]
    exact ⟨⟨hc, .inr hph⟩, .inr ⟨by simp [hph], hnr⟩⟩

end

section
variable {s t : State} {bit : Nat → Bit} {pay : Nat → Bytes} {a : Arrival} {as : List Arrival}
  {ds : List (Arrival × Bytes)}

theorem deliveries_delivered (hrecv : s.receiving (a.instr bit pay) = .next t) (hph : t.phase = .idle)
    (hds : deliveries bit pay as t = some ds) : deliveries bit pay (a :: as) s = some ((a, t.rxBuf) :: ds) := by
  simp [deliveries, hrecv, hph, hds]

theorem deliveries_undelivered (hrecv : s.receiving (a.instr bit pay) = .next t) (hph : t.phase ≠ .idle)
    (hds : deliveries bit pay as t = some ds) : deliveries bit pay (a :: as) s = some ds := by
  simp [deliveries, hrecv, hph, hds]

/-- R228 at a receiver: what is delivered over the arrivals `as` are the payloads of the SENDs `ks`, each once. That the
oldest SEND that still arrives can be among them only if its bit is `NR` is what carries the induction over arrivals. -/
structure DeliversOnce (bit : Nat → Bit) (pay : Nat → Bytes) (as : List Arrival) (s : State) (ks : List Nat) : Prop where
  delivered : deliveries bit pay as s = some (ks.map fun k => (.copy k, pay k))
  arrived : ks ⊆ copies as
  once : ks.Nodup
  oldest_expected : ∀ k ∈ ks, (∀ j ∈ copies as, k ≤ j) → bit k = s.nr

/-- An arrival that is not delivered, and leaves `NR`, adds nothing. -/
theorem DeliversOnce.cons_undelivered {ks : List Nat} (h : DeliversOnce bit pay as t ks)
    (hrecv : s.receiving (a.instr bit pay) = .next t) (hph : t.phase ≠ .idle) (hnr : t.nr = s.nr)
    (hcopies : copies as ⊆ copies (a :: as)) : DeliversOnce bit pay (a :: as) s ks where
  delivered := deliveries_undelivered hrecv hph h.delivered
  arrived := List.Subset.trans h.arrived hcopies
  once := h.once
  oldest_expected k hk hmin := hnr ▸ h.oldest_expected k hk fun j hj => hmin j (hcopies hj)

/-- A copy of the `k`-th SEND that is delivered complements `NR`, so while no newer SEND is delivered no other copy of it
is. -/
theorem DeliversOnce.cons_delivered {ks : List Nat} {k : Nat} (h : DeliversOnce bit pay as t ks)
    (hrecv : s.receiving ((Arrival.copy k).instr bit pay) = .next t) (hph : t.phase = .idle) (hbuf : t.rxBuf = pay k)
    (hbit : bit k = s.nr) (hnr : t.nr = !s.nr) (hmin : ∀ j ∈ copies as, k ≤ j) :
    DeliversOnce bit pay (.copy k :: as) s (k :: ks) where
  delivered := by rw [deliveries_delivered hrecv hph h.delivered, hbuf]; rfl
  arrived := List.cons_subset_cons k h.arrived
  once := by
    refine List.nodup_cons.mpr ⟨fun hk => ?_, h.once⟩
    have := h.oldest_expected k hk hmin
    simp [hnr, hbit] at this
  oldest_expected j hj hold := by
    have hle : j ≤ k := hold k List.mem_cons_self
    obtain rfl | hj := List.mem_cons.mp hj
    · exact hbit
    · rw [Nat.le_antisymm hle (hmin j (h.arrived hj))]
      exact hbit

/-- By induction over the arrivals: a copy is delivered or adds nothing, and a damaged frame adds nothing. -/
theorem exists_deliversOnce (hs : CanReceive s) (horder : (copies as).Pairwise (· ≤ ·))
    (hdamaged : ∀ (b : Bit) (d : Bytes) (x : Byte), .damaged b d x ∈ as → x ≠ bcc2 d) :
    ∃ ks, DeliversOnce bit pay as s ks := by
  induction as generalizing s with
  | nil => exact ⟨[], rfl, List.nil_subset _, .nil, nofun⟩
  | cons a as ih =>
    have hrest (b : Bit) (d : Bytes) (x : Byte) (h : .damaged b d x ∈ as) := hdamaged b d x (List.mem_cons_of_mem a h)
    cases a with
    | copy k =>
      obtain ⟨hmin, horder⟩ := List.pairwise_cons.mp horder
      obtain ⟨t, hrecv, ht, ⟨-, hbit, hph, hbuf, hnr⟩ | ⟨hph, hnr⟩⟩ :=
        hs.receiving_info (bit k) (pay k) (bcc2 (pay k))
      · obtain ⟨ks, h⟩ := ih ht horder hrest
        exact ⟨k :: ks, h.cons_delivered hrecv hph hbuf hbit hnr hmin⟩
      · obtain ⟨ks, h⟩ := ih ht horder hrest
        exact ⟨ks, h.cons_undelivered hrecv hph hnr (List.subset_cons_self k _)⟩
    | damaged b d x =>
      obtain ⟨t, hrecv, ht, ⟨hx, -⟩ | ⟨hph, hnr⟩⟩ := hs.receiving_info b d x
      · exact absurd hx (hdamaged b d x List.mem_cons_self)
      · obtain ⟨ks, h⟩ := ih ht horder hrest
        exact ⟨ks, h.cons_undelivered hrecv hph hnr (List.Subset.refl _)⟩

end

/-- Settles O58: what is delivered are the payloads of distinct SENDs, each by a copy of its own frame. -/
theorem eachSendIsDeliveredAtMostOnce : Obligations.EachSendIsDeliveredAtMostOnce := by
  intro s bit pay arrivals hc hph horder hdamaged
  obtain ⟨ks, h⟩ := exists_deliversOnce (bit := bit) (pay := pay) (s := s) ⟨hc, hph⟩ horder hdamaged
  refine ⟨_, h.delivered, fun a d hmem => ?_, ?_⟩
  · obtain ⟨k, -, heq⟩ := List.mem_map.mp hmem
    cases heq
    exact ⟨k, rfl, rfl⟩
  · have hfst : (ks.map fun k => (Arrival.copy k, pay k)).map Prod.fst = ks.map .copy := by
      simp
    rw [hfst]
    exact h.once.map fun _ _ => Arrival.copy.inj

end Sys2Proof.Machine
end

section
/-! PROOF. The statements of 43_timeout.md: the countdown of the timer (R252, R254), and the `TICK` that has no effect
(R257) or only counts down (R254). -/

namespace Sys2Proof.Machine

/-! ### The countdown (R252, R254) -/

section
variable {s : State}

theorem fires_armed (harmed : s.tmrArmed = true) : s.fires = decide (s.tmrRem ≤ 1) := by simp [State.fires, harmed]

theorem fires_disarmed (hdis : s.tmrArmed = false) : s.fires = false := by simp [State.fires, hdis]

/-- After `arm()`, the ticks before the last one only count down from `CFG_T`. -/
theorem iterate_tick_arm {k : Nat} (hk : k < s.attemptTicks) :
    State.tick^[k] s.arm = { s.arm with tmrRem := s.cfgT - k } := by
  induction k with
  | zero => rfl
  | succ k ih =>
    have hleft : 1 < s.cfgT - k := by simp only [State.attemptTicks] at hk; omega
    rw [Function.iterate_succ_apply', ih (by omega)]
    exact tick_counts (s := { s.arm with tmrRem := s.cfgT - k }) rfl hleft

end

/-- Settles O21: `k` ticks leave `CFG_T - k` to count, which is at most 1 exactly before the last tick. -/
theorem timerFiresOnTheLastTick : Obligations.TimerFiresOnTheLastTick := by
  intro s k hk
  have hlast : s.cfgT - k ≤ 1 ↔ k + 1 = s.attemptTicks := by simp only [State.attemptTicks] at hk ⊢; omega
  have hfires : (State.tick^[k] s.arm).fires = decide (k + 1 = s.attemptTicks) := by
    rw [iterate_tick_arm hk, fires_armed rfl]
    exact decide_eq_decide.mpr hlast
  have harmed : (State.tick^[k] s.arm).tmrArmed = true := by rw [iterate_tick_arm hk]; rfl
  refine ⟨hfires, ?_⟩
  rw [Function.iterate_succ_apply', tick_eq]
  simp only [harmed, hfires, Bool.true_and]

/-! ### A `TICK` that does not fire (R254, R257) -/

/-- In every phase, a `TICK` that finds the timer disarmed writes nothing. -/
theorem onTick_disarmed {s : State} (hdis : s.tmrArmed = false) : s.onTick = s := by
  unfold State.onTick
  cases s.phase.timed? with
  | none => simp only [tick_disarmed hdis, ite_self]
  | some p => simp [fires_disarmed hdis, tick_disarmed hdis]

theorem step_tick_disarmed {s : State} {i : Input} {rest : List Input} (hp : paramsOk s.par = true)
    (hin : s.input = i :: rest) (ht : i.event = .tick) (hdis : s.tmrArmed = false) :
    step s = .next (s.take i rest) := by
  rw [step_tick hp hin ht, onTick_disarmed (s := s.take i rest) hdis]

/-- Settles O22: a `TICK` always has a next state; in an untimed phase R46 item 2 keeps the timer disarmed. -/
theorem tickOutsideTimedPhasesHasNoEffect : Obligations.TickOutsideTimedPhasesHasNoEffect := by
  intro s rest openOk closeOk hp hin
  refine ⟨⟨_, step_tick hp hin rfl⟩, fun hinv hph => ?_⟩
  have huntimed : s.phase.timed? = none := by rcases hph with h | h | h | h <;> rw [h] <;> rfl
  have hdis := hinv.disarmed_of_untimed huntimed
  exact ⟨fires_disarmed hdis, step_tick_disarmed hp hin rfl hdis⟩

/-- Settles O23: an armed timer with more than one tick left counts down, and a disarmed one writes nothing. -/
theorem tickCountsDownInTimedPhases : Obligations.TickCountsDownInTimedPhases := by
  intro s rest openOk closeOk hp htimed hin
  obtain ⟨p, hph⟩ : ∃ p, s.phase.timed? = some p := Option.ne_none_iff_exists'.mp htimed
  refine ⟨fun harmed hleft => ?_, step_tick_disarmed hp hin rfl⟩
  rw [step_tick hp hin rfl]
  exact congrArg _ (onTick_counts (s := s.take _ rest) (phase_of_timed hph) harmed hleft)

end Sys2Proof.Machine
end

section
/-! PROOF. The statements of 60_exceptions.md: the steps that are refused (R282), the `NOBYTE` event (R293) and the
commands that need a Connection (R273). -/

namespace Sys2Proof.Machine

/-! ### What is refused (R282) -/

section
variable {s : State}

theorem onCommand_busy (hph : s.phase ≠ .idle) (b : Byte) (o : Operands) :
    onCommand b o s = .refused .commandPending := if_pos hph

theorem onCommand_malformed (hph : s.phase = .idle) {b : Byte} {o : Operands} {e : DecodeError}
    (hd : decodeCommand b o = .error e) : onCommand b o s = .refused .malformedCommand := by
  simp [onCommand, hph, hd]

theorem execOpen_connected (hph : s.phase = .idle) (hc : s.conn = .connected) (r : Role) (ch rate n t : Nat) :
    exec (.openCmd r ch rate n t) s = .refused .openWhileConnected := by
  simp [exec, execOpen, hph, hc]

theorem payloadInRange_false {c : Config} {p : Bytes} (h : p.length = 0 ∨ c.maxPayload < p.length) :
    payloadInRange c p = false :=
  Bool.eq_false_iff.mpr fun hp => by
    obtain ⟨hmin, hmax⟩ := payloadInRange_iff.mp hp
    omega

theorem execSend_badLength (hph : s.phase = .idle) {p : Bytes} (hp : payloadInRange s.par p = false) :
    exec (.sendCmd p) s = .refused .badSendLength := by
  simp [exec, execSend, hph, sendLengthOk, hp]

theorem onByte_idle (hph : s.phase = .idle) (b : Byte) : onByte b s = .refused .portReadWhileIdle := if_pos hph

theorem onNoByte_idle (hph : s.phase = .idle) : onNoByte s = .refused .portReadWhileIdle := if_pos hph

theorem onNoByte_busy (hph : s.phase ≠ .idle) : onNoByte s = .next s := if_neg hph

theorem run_refused {r : Refusal} (h : step s = .refused r) (k : Nat) : core.run (k + 1) s = .refused r := by
  have hstep : core.step s = .refused r := h
  simp [Host.Core.run, hstep]

end

/-- Settles O36: the parameter check comes before the event; then the phase decides a `BYTE`, a `NOBYTE` and whether a
command is taken, the command byte whether it is one, and OPEN and SEND ask for what they need. -/
theorem theSixRefusals : Obligations.TheSixRefusals := by
  refine ⟨fun s hp => ⟨_, step_badParameters hp⟩, fun s rest e openOk closeOk hp hin => ?_,
    fun s r k h => run_refused h k⟩
  have hstep := step_cons hp hin
  refine ⟨?pending, ?openConnected, ?sendLength, ?malformed, ?byte, ?noByte⟩
  case pending =>
    rintro b o rfl hph
    exact hstep.trans (onCommand_busy (s := s.take _ rest) hph b o)
  case openConnected =>
    rintro b o r ch rate n t rfl hph hc hd
    exact (step_command hp hin rfl hd).trans (execOpen_connected (s := s.take _ rest) hph hc r ch rate n t)
  case sendLength =>
    rintro b o p rfl hph hd hlen
    exact (step_command hp hin rfl hd).trans (execSend_badLength (s := s.take _ rest) hph (payloadInRange_false hlen))
  case malformed =>
    rintro b o rfl hph hb
    obtain ⟨err, hd⟩ := decodeCommand_error_of_four_lt hb o
    exact hstep.trans (onCommand_malformed (s := s.take _ rest) hph hd)
  case byte =>
    rintro b rfl hph
    exact hstep.trans (onByte_idle (s := s.take _ rest) hph b)
  case noByte =>
    rintro rfl hph
    exact hstep.trans (onNoByte_idle hph)

/-! ### `NOBYTE` (R293) -/

/-- Settles O24: the phase alone decides what the event does. -/
theorem noByteChangesNoRegister : Obligations.NoByteChangesNoRegister := by
  intro s rest openOk closeOk hp hin
  have hstep := step_cons hp hin
  exact ⟨fun hph => hstep.trans (onNoByte_busy hph), fun hph => hstep.trans (onNoByte_idle hph)⟩

/-! ### Commands without a Connection (R273) -/

section
variable {s : State}

theorem execReceive_notConnected (hph : s.phase = .idle) (hc : s.conn = .closed) :
    exec .receiveCmd s = .next (s.respond (.err .notConnected)) := by
  simp [exec, execReceive, hph, hc]

theorem execClose_notConnected (hph : s.phase = .idle) (hc : s.conn = .closed) :
    exec .closeCmd s = .next (s.respond (.err .notConnected)) := by
  simp [exec, execClose, hph, hc]

theorem execSend_notConnected (hph : s.phase = .idle) (hc : s.conn = .closed) {p : Bytes}
    (hp : payloadInRange s.par p = true) : exec (.sendCmd p) s = .next (s.respond (.err .notConnected)) := by
  simp [exec, execSend, hph, hc, sendLengthOk, hp]

/-- An answer in `IDLE` only adds to the outputs: the `PHASE` it writes is the one that stands. -/
theorem respond_idle (hph : s.phase = .idle) (r : Result) : s.respond r = { s with out := s.out ++ [.resp r] } := by
  rw [State.respond, ← hph]
  rfl

end

/-- Settles O35: each of the three answers with `respond`, which in `IDLE` writes the outputs only. -/
theorem commandsWithoutConnectionAnswerNotConnected : Obligations.CommandsWithoutConnectionAnswerNotConnected := by
  intro i s hph hc hi
  rw [← respond_idle hph]
  obtain rfl | rfl | ⟨p, rfl, hp⟩ := hi
  · exact execReceive_notConnected hph hc
  · exact execClose_notConnected hph hc
  · exact execSend_notConnected hph hc hp

end Sys2Proof.Machine
end

section
/-! PROOF. The statement of 70_reset_and_hazards.md: the reset state (R300). -/

namespace Sys2Proof.Machine

/-- Settles O2: each conjunct reads one field of `State.reset`, the state `core` starts from. -/
theorem resetHoldsTheResetColumn : Obligations.ResetHoldsTheResetColumn :=
  ⟨rfl, rfl, rfl, rfl, rfl, rfl, rfl, rfl, rfl, rfl, rfl, rfl, rfl, rfl, rfl⟩

end Sys2Proof.Machine
end
